-- ==== Sys2Proof/Word.lean ====
section
/-! DEFINITION. The word types: the link's and the tables' 16-bit word, and the 32-bit wrapping count. -/

namespace Sys2Proof

/-- A 16-bit word of a frame or of a table (R163, R192). -/
abbrev Word := BitVec 16

/-- A 32-bit count that wraps modulo 2^32 (00_scope.md section 5.5). -/
abbrev Count := BitVec 32

end Sys2Proof
end

