-- ==== Sys2Proof/Syntax.lean ====
section
/-! DEFINITION. The commands of the block: one constructor of `Instr` per row of the table of operations and events.
An event's operands are what it brings from outside the part; a request's operands stand in its request record. -/

namespace Sys2Proof

/-- The two link ports (R163). -/
inductive Port where
  | port1
  | port2
  deriving DecidableEq, Repr

/-- The two mark sources (R1). -/
inductive Source where
  | a
  | b
  deriving DecidableEq, Repr

/-- The four corners, in the manual's order FL, FR, RL, RR (00_scope.md section 5.1). -/
inductive Corner where
  | fl
  | fr
  | rl
  | rr
  deriving DecidableEq, Repr

/-- The part's steps, each whole and indivisible (95_what_each_step_holds.md). -/
inductive Instr where
  /-- RECEPTION_COMPLETION (R167): the whole words received on a port, whether the end delimiter was seen, whether no
  bits were left over beyond the last whole word (R165), and whether the blocks of R168 are handed the frame before it is
  placed in the forward FIFO (log entry 7). -/
  | receptionCompletion (port : Port) (words : List Word) (delimited wholeWords readFirst : Bool)
  /-- TRANSMIT_COMPLETION (R173) on a port. -/
  | transmitCompletion (port : Port)
  /-- SILENCE_TIMER_EXPIRY (R3) of a source; `swapFirst` orders the two gate close requests of a loss of source that
  performs a swap (log entry 8). -/
  | silenceTimerExpiry (source : Source) (swapFirst : Bool)
  /-- COMPUTATION_COMPLETION (R15). -/
  | computationCompletion
  /-- STAGGERED_UPDATE (R123): the staggered timer of a corner expires. -/
  | staggeredUpdate (corner : Corner)
  /-- BOOST_TIMER_EXPIRY (R120) of a corner. -/
  | boostTimerExpiry (corner : Corner)
  /-- CURRENT_MEASUREMENT (R108): a corner's PWM period ends with this average coil current, in mA. -/
  | currentMeasurement (corner : Corner) (average : Nat)
  /-- SUPPLY_MEASUREMENT (R139): the supply sample, in mV. -/
  | supplyMeasurement (sample : Nat)
  /-- NOP (R181): the execution event of a queued NOP; so the next thirteen rows, each for its own command. -/
  | nop
  /-- LOAD (R151). -/
  | load
  /-- READ_TABLE (R152). -/
  | readTable
  /-- COMMIT (R155). -/
  | commit
  /-- DISCARD (R153). -/
  | discard
  /-- SET_PROGRAMME (R53). -/
  | setProgramme
  /-- ENABLE_DRIVE (R144). -/
  | enableDrive
  /-- DISABLE_DRIVE (R145). -/
  | disableDrive
  /-- MONITOR_TEST (R136). -/
  | monitorTest
  /-- CLEAR_FAULTS (R135). -/
  | clearFaults
  /-- CLEAR_FLAGS (R187). -/
  | clearFlags
  /-- READ_STATE (R184). -/
  | readState
  /-- RESET_CONTROL (R188). -/
  | resetControl
  /-- UNKNOWN_COMMAND (R179): the execution event of a queued request whose command is none of the thirteen. -/
  | unknownCommand
  /-- POWER_ON_RESET (R191): the supply rises through the power-on threshold. -/
  | powerOnReset
  /-- RESET_LINE_RESET (R175): the RESET line is held low. -/
  | resetLineReset
  /-- RESET_END (R166): a power-on or RESET-line reset ends with these levels on ADR5..ADR0. -/
  | resetEnd (straps : BitVec 6)
  deriving DecidableEq, Repr

end Sys2Proof
end

