-- ==== Sys2Proof/Config.lean ====
section
/-! DEFINITION. The part's fixed sizes, and the one value the manual leaves open. -/

namespace Sys2Proof

/-- The quotient of a division by 0. The manual divides by T_us, by differences of breakpoints and by the supply sample, and
says of each that it is never 0 where the quotient is formed (R58, R94, R109), so it gives no value: nothing constrains
this one (log entry 12). -/
opaque Config.quotientByZero : Int → Int

/-- Places of a forward FIFO (R169). -/
def Config.fifoPlaces : Nat := 8

/-- Places of an insert queue (R170). -/
def Config.insertPlaces : Nat := 4

/-- Frames in an insert queue at or above which a REPORT is dropped (R170). -/
def Config.reportLimit : Nat := 2

/-- Forwarded frames that may go ahead of a waiting inserted frame (R171). -/
def Config.waitLimit : Nat := 3

/-- Requests the request queue holds, the one in execution included (R177). -/
def Config.requestPlaces : Nat := 4

/-- Entries of the preview queue (R76). -/
def Config.previewPlaces : Nat := 16

/-- Boost slots (R115). -/
def Config.boostSlots : Nat := 2

/-- The largest duty, in per mille (R109). -/
def Config.dutyMax : Nat := 980

/-- The largest measured current, in mA (R108). -/
def Config.currentMax : Nat := 2500

/-- The PWM period in µs while ACTIVE is not valid (R108). -/
def Config.pwmPeriodInvalid : Nat := 1000

/-- The age of a signal with no usable value (R23). -/
def Config.ageMax : Nat := 255

/-- The current in mA above which a switched-off coil counts as stuck (R133). -/
def Config.stuckLevel : Nat := 150

/-- The current in mA below which a deviating coil is OPEN (R132). -/
def Config.openLevel : Nat := 50

/-- Settle remaining after each reset (R147). -/
def Config.settleReset : Nat := 32

/-- The rise in mV above V_low by which LOW clears (R140). -/
def Config.lowHysteresis : Nat := 300

/-- Judged measurements a monitor test may take beyond the fault count (R137). -/
def Config.testMargin : Nat := 8

end Sys2Proof
end

