-- ==== Sys2Proof/Machine/State.lean ====
section
/-! DEFINITION. The state of the part, block by block (00_scope.md section 3), and its value after a power-on reset. -/

namespace Sys2Proof.Machine

/-- One value per corner, in the order FL, FR, RL, RR. -/
structure PerCorner (α : Type) where
  fl : α
  fr : α
  rl : α
  rr : α
  deriving DecidableEq, Repr

/-- One value per side: LEFT (FL, RL) and RIGHT (FR, RR). -/
structure PerSide (α : Type) where
  left : α
  right : α
  deriving DecidableEq, Repr

/-- One value per port. -/
structure PerPort (α : Type) where
  p1 : α
  p2 : α
  deriving DecidableEq, Repr

/-- One value per mark source. -/
structure PerSource (α : Type) where
  a : α
  b : α
  deriving DecidableEq, Repr

/-- The two sides (00_scope.md section 4). -/
inductive Side where
  | left
  | right
  deriving DecidableEq, Repr

/-- The two axles: FRONT (FL, FR) and REAR (RL, RR). -/
inductive Axle where
  | front
  | rear
  deriving DecidableEq, Repr

/-- The nine signals, in index order (R23). -/
inductive Signal where
  | travelFL
  | travelFR
  | travelRL
  | travelRR
  | accelFL
  | accelFR
  | accelRL
  | accelRR
  | speed
  deriving DecidableEq, Repr

/-- One value per signal (R23). -/
structure PerSignal (α : Type) where
  travelFL : α
  travelFR : α
  travelRL : α
  travelRR : α
  accelFL : α
  accelFR : α
  accelRL : α
  accelRR : α
  speed : α
  deriving DecidableEq, Repr

/-! ### Link Interface (chapter 10) -/

/-- The nine counters of a port (R174). -/
structure Counters where
  received : Count
  accepted : Count
  consumed : Count
  check : Count
  format : Count
  full : Count
  sentForwarded : Count
  sentInserted : Count
  insertLost : Count
  deriving DecidableEq, Repr

/-- A whole frame as it stands on the line: header word, payload words, check word (R163). -/
abbrev Frame := List Word

/-- A frame on a port's line, and whether it came from the insert queue (R171). -/
structure Transmission where
  frame : Frame
  inserted : Bool
  deriving DecidableEq, Repr

/-- One port unit (R169 to R174). `line` is `none` while the transmitter is free. -/
structure PortUnit where
  fifo : List Frame
  insert : List Frame
  waitCount : Nat
  line : Option Transmission
  counters : Counters
  deriving DecidableEq, Repr

/-- The Link Interface: both ports and the node address (R166). -/
structure Link where
  ports : PerPort PortUnit
  nodeAddress : BitVec 6
  deriving DecidableEq, Repr

/-! ### Signal Capture (chapter 2) -/

/-- The live store of one signal (R23). -/
structure Live where
  value : Int
  age : Nat
  clamps : Nat
  deriving DecidableEq, Repr

/-- Signal Capture: the live store and the SHORT count (R26). -/
structure Capture where
  live : PerSignal Live
  short : Count
  deriving DecidableEq, Repr

/-- One signal of a snapshot, with its judgement (R29, R31). -/
structure Sample where
  value : Int
  age : Nat
  stale : Bool
  deriving DecidableEq, Repr

/-! ### Cycle Timing (chapter 1) -/

/-- A mark source: SILENT with its timer stopped, or ALIVE with its silence timer running from the timeout in ms it was
restarted with (R2, R3). -/
inductive SourceState where
  | silent
  | alive (timeout : Nat)
  deriving DecidableEq, Repr

/-- Cycle Timing (R1 to R11). `selected` is `none` for NONE, `baseline` is `none` when absent. -/
structure Timing where
  sources : PerSource SourceState
  selected : Option Source
  baseline : Option Word
  holdRequest : Bool
  served : Count
  skipped : Count
  duplicate : Count
  reportPort : Port
  deriving DecidableEq, Repr

/-! ### Table Store (chapter 9) -/

/-- One bank of six tables (R148): 36, 8, 96, 160, 20 and 16 words. -/
structure Bank where
  t0 : List Word
  t1 : List Word
  t2 : List Word
  t3 : List Word
  t4 : List Word
  t5 : List Word
  deriving DecidableEq, Repr

/-- The bank of all zeros that a power-on reset leaves (R162). -/
def Bank.zero : Bank :=
  { t0 := List.replicate 36 0#16, t1 := List.replicate 8 0#16, t2 := List.replicate 96 0#16,
    t3 := List.replicate 160 0#16, t4 := List.replicate 20 0#16, t5 := List.replicate 16 0#16 }

/-- The Table Store (R148). -/
structure Tables where
  active : Bank
  staged : Bank
  activeValid : Bool
  commitPending : Bool
  deriving DecidableEq, Repr

/-! ### Control Engine (chapters 1, 3, 4, 5, 6) -/

/-- The three ride programmes (R52). -/
inductive Programme where
  | touring
  | balanced
  | firm
  deriving DecidableEq, Repr

/-- The inputs of a cycle in computation, fixed at its served mark (R10, R13). -/
structure Cycle where
  bank : Bank
  programme : Programme
  k : Nat
  snapshot : PerSignal Sample
  seq : Word
  number : Count
  hold : Bool
  deriving DecidableEq, Repr

/-- The estimation record of a corner (R39). -/
structure Estimation where
  xPrev : Int
  seeded : Bool
  vbQ : Int
  lastVd : Int
  lastTravelLost : Bool
  lastSkyLost : Bool
  deriving DecidableEq, Repr

/-- Which path of stage 9 a corner took (R104). -/
inductive TargetSource where
  | map
  | fallback
  deriving DecidableEq, Repr

/-- A corner's kept force and map items of the last completed cycle (R70, R104). -/
structure Results where
  fSky : Nat
  fDem : Nat
  source : TargetSource
  mapCurrent : Nat
  target : Nat
  deriving DecidableEq, Repr

/-- The kind of a preview entry (R76). -/
inductive EventKind where
  | bump
  | dip
  deriving DecidableEq, Repr

/-- An entry of the preview queue (R76). -/
structure PreviewEntry where
  side : Side
  kind : EventKind
  stamp : Count
  peak : Nat
  isOpen : Bool
  deriving DecidableEq, Repr

/-- The event state of a side (R77). -/
inductive EventState where
  | armed
  | inEvent
  deriving DecidableEq, Repr

/-- A rear window (R81). -/
structure Window where
  remaining : Nat
  scale : Nat
  deriving DecidableEq, Repr

/-- The Control Engine. `computing` is `none` while the engine is IDLE. -/
structure Engine where
  computing : Option Cycle
  est : PerCorner Estimation
  results : PerCorner Results
  odometer : Count
  queue : List PreviewEntry
  sides : PerSide EventState
  windows : PerSide Window
  previewActive : Bool
  previewFull : Count
  flushOwed : Bool
  programme : Programme
  pendingProgramme : Option Programme
  lookupSpeed : Nat
  cSky : Nat
  cBase : Nat
  fMax : Nat
  deriving DecidableEq, Repr

/-! ### Drive Unit (chapter 7) -/

/-- The state of a drive record. The request base is present only in WAIT, the running boost timer (the timeout in ms it
was started with) only in BOOST (R107). -/
inductive DriveState where
  | off
  | hold
  | wait (base : Nat)
  | boost (timeout : Nat)
  | fault
  deriving DecidableEq, Repr

/-- Why a corner last entered FAULT (R107). -/
inductive FaultCause where
  | none
  | openCoil
  | deviation
  | stuckOn
  deriving DecidableEq, Repr

/-- A corner's drive record (R107), and the duty and length of its PWM period in progress (R108). `periodEnded` says that
the corner's measurement has ended that period while another corner's is still to come: the next periods of the four
corners start together (R108; log entry 22). -/
structure DriveRecord where
  state : DriveState
  target : Nat
  duty : Nat
  measured : Nat
  cause : FaultCause
  timeouts : Count
  outputDuty : Nat
  periodLength : Nat
  periodEnded : Bool
  deriving DecidableEq, Repr

/-- An outstanding staggered update: its held target and the offset in µs of its timer (R123). -/
structure Staggered where
  target : Nat
  offset : Nat
  deriving DecidableEq, Repr

/-- The Drive Unit: the records, the corners that hold a boost slot, the pending list, the staggered updates. -/
structure Drive where
  corners : PerCorner DriveRecord
  slots : List Corner
  waiting : List Corner
  staggered : PerCorner (Option Staggered)
  deriving DecidableEq, Repr

/-! ### Current Monitor, Supply Monitor, Drive Gate (chapter 8) -/

/-- The direction of a monitor test (R136). -/
inductive TestDirection where
  | high
  | low
  deriving DecidableEq, Repr

/-- A running monitor test (R136, R137). -/
structure MonitorTest where
  direction : TestDirection
  judged : Nat
  deriving DecidableEq, Repr

/-- The Current Monitor's items of one corner (R130). -/
structure MonitorRecord where
  settle : Nat
  deviation : Nat
  stuck : Nat
  test : Option MonitorTest
  deriving DecidableEq, Repr

/-- The Supply Monitor (R139). -/
structure Supply where
  sample : Nat
  low : Bool
  deriving DecidableEq, Repr

/-- The cause of the gate's last close (R143). -/
inductive CloseCause where
  | command
  | supplyCut
  | marksSilent
  | reset
  deriving DecidableEq, Repr

/-- The Drive Gate (R143). -/
structure Gate where
  isOpen : Bool
  cause : CloseCause
  deriving DecidableEq, Repr

/-! ### Management Unit (chapter 11) -/

/-- The sixteen sticky flags (R186), in flag word order (R192). -/
inductive Flag where
  | powerOn
  | checkErrors
  | fullDrops
  | insertLost
  | markGap
  | markSkipped
  | sourceSwitch
  | marksSilent
  | signalStale
  | signalClamped
  | previewFull
  | boostTimeout
  | cornerFault
  | supplyLow
  | supplyCut
  | monitorFailed
  deriving DecidableEq, Repr

/-- A request record (R177). -/
structure Request where
  tag : BitVec 8
  quiet : Bool
  command : BitVec 7
  operands : List Word
  port : Port
  deriving DecidableEq, Repr

/-- The Management Unit. The request queue of R177 is `executing` (its head, when in execution) followed by `queue`. -/
structure Mgmt where
  executing : Option Request
  queue : List Request
  flags : Word
  captures : PerPort Counters
  deriving DecidableEq, Repr

/-! ### The whole part -/

/-- The state of the part, with the queue of commands that wait. -/
structure State where
  pending : List Instr
  resetInProgress : Bool
  link : Link
  capture : Capture
  timing : Timing
  engine : Engine
  tables : Tables
  drive : Drive
  monitor : PerCorner MonitorRecord
  supply : Supply
  gate : Gate
  mgmt : Mgmt
  deriving DecidableEq, Repr

/-- Why a step stops. -/
inductive Fault where
  /-- Raised by SUPPLY_MEASUREMENT for an operand above the sense input's full scale, which is no supply sample (R139).
  Safe: no event of the part brings it (log entry 13). -/
  | illFormed
  deriving DecidableEq, Repr

/-- Why a command has no meaning. -/
inductive Refusal where
  /-- A row of the table without a meaning. Raised by nothing in this model. Safe: nothing is proved of such a row. -/
  | notModelled (mnemonic : String)
  deriving DecidableEq, Repr

/-! ### Values after a reset -/

/-- All nine counters 0 (R175). -/
def Counters.zero : Counters :=
  { received := 0, accepted := 0, consumed := 0, check := 0, format := 0, full := 0, sentForwarded := 0,
    sentInserted := 0, insertLost := 0 }

/-- A port after a power-on or RESET-line reset (R175). -/
def PortUnit.reset : PortUnit :=
  { fifo := [], insert := [], waitCount := 0, line := none, counters := Counters.zero }

/-- A signal after a power-on or RESET-line reset (R38). -/
def Live.reset : Live := { value := 0, age := Config.ageMax, clamps := 0 }

/-- The same value for every signal. -/
def PerSignal.all {α : Type} (x : α) : PerSignal α := ⟨x, x, x, x, x, x, x, x, x⟩

/-- The same value for every corner. -/
def PerCorner.all {α : Type} (x : α) : PerCorner α := ⟨x, x, x, x⟩

/-- Cycle Timing after a power-on or RESET-line reset (R21). -/
def Timing.reset : Timing :=
  { sources := ⟨.silent, .silent⟩, selected := none, baseline := none, holdRequest := false, served := 0,
    skipped := 0, duplicate := 0, reportPort := .port1 }

/-- An estimation record after each reset (R51). -/
def Estimation.reset : Estimation :=
  { xPrev := 0, seeded := false, vbQ := 0, lastVd := 0, lastTravelLost := false, lastSkyLost := false }

/-- A corner's kept items after each reset (R70, R104). -/
def Results.reset : Results := { fSky := 0, fDem := 0, source := .map, mapCurrent := 0, target := 0 }

/-- A rear window after each reset (R92). -/
def Window.reset : Window := { remaining := 0, scale := 256 }

/-- The Control Engine after each reset, with the current programme it then has (R22, R51, R57, R63, R70, R92, R104). -/
def Engine.reset (programme : Programme) : Engine :=
  { computing := none, est := PerCorner.all Estimation.reset, results := PerCorner.all Results.reset, odometer := 0,
    queue := [], sides := ⟨.armed, .armed⟩, windows := ⟨Window.reset, Window.reset⟩, previewActive := false,
    previewFull := 0, flushOwed := false, programme := programme, pendingProgramme := none, lookupSpeed := 0,
    cSky := 0, cBase := 0, fMax := 0 }

/-- A drive record after a power-on or RESET-line reset (R129), with this length of its PWM period (R108; log
entries 4 and 5). -/
def DriveRecord.reset (periodLength : Nat) : DriveRecord :=
  { state := .off, target := 0, duty := 0, measured := 0, cause := .none, timeouts := 0, outputDuty := 0,
    periodLength := periodLength, periodEnded := false }

/-- The Drive Unit after a power-on or RESET-line reset (R129). -/
def Drive.reset (periodLength : Nat) : Drive :=
  { corners := PerCorner.all (DriveRecord.reset periodLength), slots := [], waiting := [],
    staggered := PerCorner.all none }

/-- The Current Monitor's items of a corner after each reset (R147). -/
def MonitorRecord.reset : MonitorRecord :=
  { settle := Config.settleReset, deviation := 0, stuck := 0, test := none }

/-- The gate after each reset (R147). -/
def Gate.reset : Gate := { isOpen := false, cause := .reset }

/-- The machine right after a power-on reset has ended: every value as the reset tables give it, the straps read as 0
(log entry 4), nothing in the queue of commands. -/
def State.reset : State :=
  { pending := [], resetInProgress := false,
    link := { ports := ⟨PortUnit.reset, PortUnit.reset⟩, nodeAddress := 0 },
    capture := { live := PerSignal.all Live.reset, short := 0 },
    timing := Timing.reset,
    engine := Engine.reset .balanced,
    tables := { active := Bank.zero, staged := Bank.zero, activeValid := false, commitPending := false },
    drive := Drive.reset Config.pwmPeriodInvalid,
    monitor := PerCorner.all MonitorRecord.reset,
    supply := { sample := 0, low := false },
    gate := Gate.reset,
    mgmt := { executing := none, queue := [], flags := 1#16, captures := ⟨Counters.zero, Counters.zero⟩ } }

end Sys2Proof.Machine
end

