-- ==== Sys2Proof/Machine/Access.lean ====
section
/-! DEFINITION. Reading and updating one item of a group: per corner, side, port, source and signal, and the items of the
state reached through them. -/

namespace Sys2Proof.Machine

/-- The corners in the manual's order (00_scope.md section 5.1). -/
def corners : List Corner := [.fl, .fr, .rl, .rr]

/-- The item of a corner. -/
def PerCorner.get {α : Type} (p : PerCorner α) : Corner → α
  | .fl => p.fl
  | .fr => p.fr
  | .rl => p.rl
  | .rr => p.rr

/-- The group with one corner's item replaced. -/
def PerCorner.set {α : Type} (p : PerCorner α) (c : Corner) (x : α) : PerCorner α :=
  match c with
  | .fl => { p with fl := x }
  | .fr => { p with fr := x }
  | .rl => { p with rl := x }
  | .rr => { p with rr := x }

/-- The group whose item at each corner is `f` of that corner. -/
def PerCorner.ofFn {α : Type} (f : Corner → α) : PerCorner α := ⟨f .fl, f .fr, f .rl, f .rr⟩

/-- The item of a side. -/
def PerSide.get {α : Type} (p : PerSide α) : Side → α
  | .left => p.left
  | .right => p.right

/-- The group with one side's item replaced. -/
def PerSide.set {α : Type} (p : PerSide α) (d : Side) (x : α) : PerSide α :=
  match d with
  | .left => { p with left := x }
  | .right => { p with right := x }

/-- The item of a port. -/
def PerPort.get {α : Type} (p : PerPort α) : Port → α
  | .port1 => p.p1
  | .port2 => p.p2

/-- The group with one port's item replaced. -/
def PerPort.set {α : Type} (p : PerPort α) (q : Port) (x : α) : PerPort α :=
  match q with
  | .port1 => { p with p1 := x }
  | .port2 => { p with p2 := x }

/-- The port a frame received on this port is forwarded to (R163). -/
def opposite : Port → Port
  | .port1 => .port2
  | .port2 => .port1

/-- The item of a source. -/
def PerSource.get {α : Type} (p : PerSource α) : Source → α
  | .a => p.a
  | .b => p.b

/-- The group with one source's item replaced. -/
def PerSource.set {α : Type} (p : PerSource α) (q : Source) (x : α) : PerSource α :=
  match q with
  | .a => { p with a := x }
  | .b => { p with b := x }

/-- The nine signals in index order (R23). -/
def signals : List Signal :=
  [.travelFL, .travelFR, .travelRL, .travelRR, .accelFL, .accelFR, .accelRL, .accelRR, .speed]

/-- The item of a signal. -/
def PerSignal.get {α : Type} (p : PerSignal α) : Signal → α
  | .travelFL => p.travelFL
  | .travelFR => p.travelFR
  | .travelRL => p.travelRL
  | .travelRR => p.travelRR
  | .accelFL => p.accelFL
  | .accelFR => p.accelFR
  | .accelRL => p.accelRL
  | .accelRR => p.accelRR
  | .speed => p.speed

/-- The group with one signal's item replaced. -/
def PerSignal.set {α : Type} (p : PerSignal α) (g : Signal) (x : α) : PerSignal α :=
  match g with
  | .travelFL => { p with travelFL := x }
  | .travelFR => { p with travelFR := x }
  | .travelRL => { p with travelRL := x }
  | .travelRR => { p with travelRR := x }
  | .accelFL => { p with accelFL := x }
  | .accelFR => { p with accelFR := x }
  | .accelRL => { p with accelRL := x }
  | .accelRR => { p with accelRR := x }
  | .speed => { p with speed := x }

/-- The group whose item at each signal is `f` of that signal. -/
def PerSignal.ofFn {α : Type} (f : Signal → α) : PerSignal α :=
  ⟨f .travelFL, f .travelFR, f .travelRL, f .travelRR, f .accelFL, f .accelFR, f .accelRL, f .accelRR, f .speed⟩

/-- A signal's fixed index (R23). -/
def Signal.index : Signal → Nat
  | .travelFL => 0
  | .travelFR => 1
  | .travelRL => 2
  | .travelRR => 3
  | .accelFL => 4
  | .accelFR => 5
  | .accelRL => 6
  | .accelRR => 7
  | .speed => 8

/-- The corner's axle: FRONT for FL and FR, REAR for RL and RR. -/
def axleOf : Corner → Axle
  | .fl => .front
  | .fr => .front
  | .rl => .rear
  | .rr => .rear

/-- The travel signal of a corner (R40). -/
def travelOf : Corner → Signal
  | .fl => .travelFL
  | .fr => .travelFR
  | .rl => .travelRL
  | .rr => .travelRR

/-- The acceleration signal of a corner (R40). -/
def accelOf : Corner → Signal
  | .fl => .accelFL
  | .fr => .accelFR
  | .rl => .accelRL
  | .rr => .accelRR

/-- The front corner a side's event state follows (R77). -/
def frontOf : Side → Corner
  | .left => .fl
  | .right => .fr

/-- The side whose rear window acts on a corner: RL has LEFT's, RR has RIGHT's, the front corners have none (R69, R80). -/
def windowSide : Corner → Option Side
  | .fl => none
  | .fr => none
  | .rl => some .left
  | .rr => some .right

/-- The drive record of a corner (R107). -/
def State.corner (s : State) (c : Corner) : DriveRecord := s.drive.corners.get c

/-- The state with one corner's drive record replaced. -/
def State.setCorner (s : State) (c : Corner) (r : DriveRecord) : State :=
  { s with drive := { s.drive with corners := s.drive.corners.set c r } }

/-- The monitor's items of a corner (R130). -/
def State.monitorOf (s : State) (c : Corner) : MonitorRecord := s.monitor.get c

/-- The state with the monitor's items of one corner replaced. -/
def State.setMonitor (s : State) (c : Corner) (m : MonitorRecord) : State :=
  { s with monitor := s.monitor.set c m }

/-- The state with the live store replaced (R23). -/
def State.setLive (s : State) (l : PerSignal Live) : State := { s with capture := { s.capture with live := l } }

/-- The state with the source states replaced (R2). -/
def State.setSources (s : State) (p : PerSource SourceState) : State :=
  { s with timing := { s.timing with sources := p } }

/-- The state with the outstanding staggered updates replaced (R123). -/
def State.setStaggered (s : State) (p : PerCorner (Option Staggered)) : State :=
  { s with drive := { s.drive with staggered := p } }

/-- The state with the pending list replaced (R115). -/
def State.setWaiting (s : State) (cs : List Corner) : State := { s with drive := { s.drive with waiting := cs } }

/-- The state with the boost slots replaced (R115). -/
def State.setSlots (s : State) (cs : List Corner) : State := { s with drive := { s.drive with slots := cs } }

/-- A port unit. -/
def State.port (s : State) (p : Port) : PortUnit := s.link.ports.get p

/-- The state with one port unit replaced. -/
def State.setPort (s : State) (p : Port) (u : PortUnit) : State :=
  { s with link := { s.link with ports := s.link.ports.set p u } }

/-- What a port's receiver does between receptions (R175): cut off while a reset is in progress, otherwise waiting for a
start delimiter. A reception in progress is carried by the command that completes it (log entry 6). -/
def State.portsCutOff (s : State) : Bool := s.resetInProgress

end Sys2Proof.Machine
end

