-- ==== Sys2Proof/Machine/Flags.lean ====
section
/-! DEFINITION. The sticky flag word (R186, R187, R192). -/

namespace Sys2Proof.Machine

/-- A flag's bit in the flag word (R192). -/
def Flag.bit : Flag → Nat
  | .powerOn => 0
  | .checkErrors => 1
  | .fullDrops => 2
  | .insertLost => 3
  | .markGap => 4
  | .markSkipped => 5
  | .sourceSwitch => 6
  | .marksSilent => 7
  | .signalStale => 8
  | .signalClamped => 9
  | .previewFull => 10
  | .boostTimeout => 11
  | .cornerFault => 12
  | .supplyLow => 13
  | .supplyCut => 14
  | .monitorFailed => 15

/-- The flag word with only this flag set. -/
def Flag.mask (f : Flag) : Word := 1#16 <<< f.bit

/-- Whether a flag is set in a flag word. -/
def Flag.isSet (f : Flag) (w : Word) : Bool := w.getLsbD f.bit

/-- Setting a sticky flag; one already set stays set (R186). -/
def setFlag (f : Flag) (s : State) : State := { s with mgmt := { s.mgmt with flags := s.mgmt.flags ||| f.mask } }

/-- Setting a sticky flag when a condition holds. -/
def setFlagIf (b : Bool) (f : Flag) (s : State) : State := if b then setFlag f s else s

/-- Clearing the flags a mask names (R187). -/
def clearFlags (mask : Word) (s : State) : State := { s with mgmt := { s.mgmt with flags := s.mgmt.flags &&& ~~~mask } }

end Sys2Proof.Machine
end

