-- ==== Sys2Proof/Machine/Operands.lean ====
section
/-! DEFINITION. The words of frames: header, request and reply words, their codes, and the check word (R163, R164, R192). -/

namespace Sys2Proof.Machine

/-- Kind field of a header word, bits 15..13 (R192). -/
def headerKind (w : Word) : BitVec 3 := w.extractLsb' 13 3

/-- Length field of a header word, bits 12..9 (R192). -/
def headerLength (w : Word) : Nat := (w.extractLsb' 9 4).toNat

/-- Ident field of a header word, bits 8..0 (R192). -/
def headerIdent (w : Word) : Nat := (w.extractLsb' 0 9).toNat

/-- A header word of its three fields (R192). -/
def headerWord (kind : BitVec 3) (length : BitVec 4) (ident : BitVec 9) : Word := kind ++ length ++ ident

/-- Kind 0 (R163). -/
def kindSample : BitVec 3 := 0#3

/-- Kind 1 (R163). -/
def kindMark : BitVec 3 := 1#3

/-- Kind 2 (R163). -/
def kindRequest : BitVec 3 := 2#3

/-- Kind 3 (R163). -/
def kindReply : BitVec 3 := 3#3

/-- Kind 4 (R163). -/
def kindReport : BitVec 3 := 4#3

/-- One bit into the check register: generator x^16 + x^12 + x^5 + 1, nothing reflected (R164). -/
def crcBit (reg : Word) (bit : Bool) : Word :=
  (reg <<< 1) ^^^ (if reg.msb != bit then 0x1021#16 else 0#16)

/-- The low `n` bits of a word into the check register, most significant first. -/
def crcBits : Nat → Word → Word → Word
  | 0, reg, _ => reg
  | n + 1, reg, w => crcBits n (crcBit reg (w.getLsbD n)) w

/-- One word into the check register, most significant bit first (R164). -/
def crcWord (reg w : Word) : Word := crcBits 16 reg w

/-- The check word over words in frame order; the register starts at all ones (R164). -/
def checkWord (ws : List Word) : Word := ws.foldl crcWord 0xFFFF#16

/-- A frame: header and payload words with their check word appended (R164). -/
def sealFrame (ws : List Word) : Frame := ws ++ [checkWord ws]

/-- Whether a reception passes its check (R164, R165): ended by its end delimiter, of whole words, at least two of them,
and the check word over all but the last equal to the last. -/
def passesCheck (words : List Word) (delimited wholeWords : Bool) : Bool :=
  delimited && wholeWords && decide (2 ≤ words.length) && (words.getLast? == some (checkWord words.dropLast))

/-- The header word of a frame that has one. -/
def frameHeader (words : List Word) : Word := words.headD 0#16

/-- The payload words of a frame: all between header and check word (R163). -/
def framePayload (words : List Word) : List Word := words.tail.dropLast

/-- Whether length field and payload agree (R167, order 2): length at most 8 and as many payload words as it gives. -/
def wellFormatted (words : List Word) : Bool :=
  decide (headerLength (frameHeader words) ≤ 8) &&
    decide ((framePayload words).length = headerLength (frameHeader words))

/-- A number as an unsigned word. -/
def natWord (n : Nat) : Word := BitVec.ofNat 16 n

/-- An integer as a signed word in two's complement. -/
def intWord (x : Int) : Word := BitVec.ofInt 16 x

/-- A 32-bit quantity as two words, upper half first (R192). -/
def countWords (c : Count) : List Word := [c.extractLsb' 16 16, c.extractLsb' 0 16]

/-- Flags packed into a word from bit 0 up. -/
def bitsWord (bs : List Bool) : Word :=
  natWord (bs.foldr (fun b n => 2 * n + b.toNat) 0)

/-- Tag of request word 0, bits 15..8 (R192). -/
def requestTag (w : Word) : BitVec 8 := w.extractLsb' 8 8

/-- Quiet flag of request word 0, bit 7 (R192). -/
def requestQuiet (w : Word) : Bool := w.getLsbD 7

/-- Command of request word 0, bits 6..0 (R192). -/
def requestCommand (w : Word) : BitVec 7 := w.extractLsb' 0 7

/-- Request word 0 of its three fields (R192). -/
def requestWord (tag : BitVec 8) (quiet : Bool) (command : BitVec 7) : Word := tag ++ BitVec.ofBool quiet ++ command

/-- Command codes 0 to 13 (R192). -/
def codeNop : BitVec 7 := 0#7
def codeLoad : BitVec 7 := 1#7
def codeReadTable : BitVec 7 := 2#7
def codeCommit : BitVec 7 := 3#7
def codeDiscard : BitVec 7 := 4#7
def codeSetProgramme : BitVec 7 := 5#7
def codeEnableDrive : BitVec 7 := 6#7
def codeDisableDrive : BitVec 7 := 7#7
def codeMonitorTest : BitVec 7 := 8#7
def codeClearFaults : BitVec 7 := 9#7
def codeClearFlags : BitVec 7 := 10#7
def codeReadState : BitVec 7 := 11#7
def codeResetControl : BitVec 7 := 12#7
def codeAbort : BitVec 7 := 13#7

/-- Whether a command code is none of the thirteen queued commands (R179, R181). -/
def unknownCode (c : BitVec 7) : Bool := decide (12 < c.toNat)

/-- The results of replies (R180). -/
inductive Result where
  | ok
  | busy
  | invalid
  | refused
  | rejected
  | aborted
  deriving DecidableEq, Repr

/-- Result codes (R192). -/
def Result.code : Result → BitVec 4
  | .ok => 0
  | .busy => 1
  | .invalid => 2
  | .refused => 3
  | .rejected => 4
  | .aborted => 5

/-- Reply word 0: tag in bits 15..8, result in bits 7..4 (R192). -/
def replyWord (tag : BitVec 8) (r : Result) : Word := tag ++ r.code ++ 0#4

/-- The REPLY frame of a request (R180): its length is 1 plus the number of data words. -/
def replyFrame (node : BitVec 6) (tag : BitVec 8) (r : Result) (data : List Word) : Frame :=
  sealFrame (headerWord kindReply (BitVec.ofNat 4 (1 + data.length)) (node.setWidth 9) :: replyWord tag r :: data)

/-- Refusal reasons (R180, R192). -/
def reasonNoActive : Word := 2#16
def reasonNoSource : Word := 3#16
def reasonSupplyLow : Word := 4#16
def reasonNotHold : Word := 5#16
def reasonNotSettled : Word := 6#16
def reasonGateOpen : Word := 7#16

/-- Corner codes (R192). -/
def cornerCode : Corner → Nat
  | .fl => 0
  | .fr => 1
  | .rl => 2
  | .rr => 3

/-- The corner a code names. -/
def cornerOf : Nat → Option Corner
  | 0 => some .fl
  | 1 => some .fr
  | 2 => some .rl
  | 3 => some .rr
  | _ => none

/-- Programme codes (R192). -/
def Programme.code : Programme → Nat
  | .touring => 0
  | .balanced => 1
  | .firm => 2

/-- The programme a code names. -/
def programmeOf : Nat → Option Programme
  | 0 => some .touring
  | 1 => some .balanced
  | 2 => some .firm
  | _ => none

/-- Drive state codes (R192). -/
def DriveState.code : DriveState → Nat
  | .off => 0
  | .hold => 1
  | .wait _ => 2
  | .boost _ => 3
  | .fault => 4

/-- Fault cause codes (R192). -/
def FaultCause.code : FaultCause → Nat
  | .none => 0
  | .openCoil => 1
  | .deviation => 2
  | .stuckOn => 3

/-- Close cause codes (R192). -/
def CloseCause.code : CloseCause → Nat
  | .command => 0
  | .supplyCut => 1
  | .marksSilent => 2
  | .reset => 3

/-- Selected source codes (R192). -/
def selectedCode : Option Source → Nat
  | none => 0
  | some .a => 1
  | some .b => 2

end Sys2Proof.Machine
end

