-- ==== Sys2Proof/Machine/Arith.lean ====
section
/-! DEFINITION. The rounding terms of 00_scope.md section 5.4, clamping, and the one interpolation step of R62. -/

namespace Sys2Proof.Machine

/-- `n / d` rounded to nearest, halves away from zero (00_scope.md section 5.4). -/
def roundAway (n : Int) (d : Nat) : Int :=
  if d = 0 then Config.quotientByZero n else n.sign * ((2 * n.natAbs + d) / (2 * d) : Nat)

/-- `n / d` rounded half up (00_scope.md section 5.4). -/
def roundHalfUp (n d : Nat) : Nat :=
  if d = 0 then (Config.quotientByZero n).toNat else (2 * n + d) / (2 * d)

/-- A natural number clamped into `lo..hi`. -/
def clampNat (lo hi x : Nat) : Nat := if x < lo then lo else if hi < x then hi else x

/-- An integer clamped into `lo..hi`. -/
def clampInt (lo hi x : Int) : Int := if x < lo then lo else if hi < x then hi else x

/-- The interpolation step (R62): y_lo + floor(((y_hi − y_lo) × frac + 128) / 256). -/
def interpolate (yLo yHi frac : Nat) : Nat :=
  ((yLo : Int) + (((yHi : Int) - yLo) * frac + 128) / 256).toNat

/-- The segment fraction (R61, R98), truncated toward zero. -/
def segmentFraction (x lo hi : Nat) : Nat := (x - lo) * 256 / (hi - lo)

/-- The segment i, 0..6, of an axis of eight points with p_i ≤ x < p_{i+1} (R61, R98). One is found whenever x lies at or
above point 0 and below point 7. -/
def segmentOf (point : Nat → Nat) (x : Nat) : Nat :=
  ((List.range 7).find? fun i => decide (point i ≤ x ∧ x < point (i + 1))).getD 6

end Sys2Proof.Machine
end

