-- ==== Sys2Proof/Machine/Tables.lean ====
section
/-! DEFINITION. The fields of the tables (R149, R150, R194), writing a span of words (R151), and the COMMIT validation walk
(R155, R156). -/

namespace Sys2Proof.Machine

/-- The word at an offset of a table, as an unsigned number. -/
def wordAt (t : List Word) (o : Nat) : Nat := (t.getD o 0#16).toNat

/-! ### T1: control parameters -/

def Bank.tUs (b : Bank) : Nat := wordAt b.t1 0
def Bank.staleLimit (b : Bank) : Nat := wordAt b.t1 1
def Bank.leakShift (b : Bank) : Nat := wordAt b.t1 2
def Bank.identA (b : Bank) : Nat := wordAt b.t1 3
def Bank.identB (b : Bank) : Nat := wordAt b.t1 4
/-- Silence timeout in ms. -/
def Bank.silenceTimeout (b : Bank) : Nat := wordAt b.t1 5
def Bank.reportDivider (b : Bank) : Nat := wordAt b.t1 6
/-- Update order: 1 is STAGGERED, 0 is TOGETHER (R194). -/
def Bank.isStaggered (b : Bank) : Bool := wordAt b.t1 7 == 1

/-! ### T0: signal map -/

/-- A row of the signal map (R24). -/
inductive MapRow where
  | unmapped
  | mapped (ident wordIndex : Nat) (gain offset : Int)
  deriving DecidableEq, Repr

/-- The row at an index of a T0 table (R194): bit 15 of its first word tells MAPPED, bits 8..0 hold the ident, gain and
offset are signed. Two rows are the same as R24 says exactly when these are equal. -/
def rowOf (t0 : List Word) (n : Nat) : MapRow :=
  if (t0.getD (4 * n) 0#16).msb then
    .mapped (((t0.getD (4 * n) 0#16).extractLsb' 0 9).toNat) (wordAt t0 (4 * n + 1))
      (t0.getD (4 * n + 2) 0#16).toInt (t0.getD (4 * n + 3) 0#16).toInt
  else .unmapped

/-- A signal's row in a bank. -/
def Bank.row (b : Bank) (g : Signal) : MapRow := rowOf b.t0 g.index

/-- A signal's row in force: every row counts as UNMAPPED while ACTIVE is not valid (R24). -/
def Tables.row (t : Tables) (g : Signal) : MapRow := if t.activeValid then t.active.row g else .unmapped

/-! ### T2: schedule -/

/-- Field `f` (0 speed, 1 c_sky, 2 c_base, 3 f_max) of point `j` of a programme's schedule (R149). -/
def Bank.schedule (b : Bank) (p : Programme) (j f : Nat) : Nat :=
  let block := match p with
    | .touring => 0
    | .balanced => 32
    | .firm => 64
  wordAt b.t2 (block + 4 * j + f)

/-! ### T3: valve maps -/

/-- Where an axle's map starts in T3 (R149). -/
def mapBase : Axle → Nat
  | .front => 0
  | .rear => 80

def Bank.velocityPoint (b : Bank) (x : Axle) (i : Nat) : Nat := wordAt b.t3 (mapBase x + i)
def Bank.forcePoint (b : Bank) (x : Axle) (j : Nat) : Nat := wordAt b.t3 (mapBase x + 8 + j)
def Bank.mapCurrent (b : Bank) (x : Axle) (i j : Nat) : Nat := wordAt b.t3 (mapBase x + 16 + 8 * i + j)

/-! ### T4: drive parameters -/

/-- Coil resistance of a corner, mΩ. -/
def Bank.resistance (b : Bank) : Corner → Nat
  | .fl => wordAt b.t4 0
  | .fr => wordAt b.t4 1
  | .rl => wordAt b.t4 2
  | .rr => wordAt b.t4 3

def Bank.iMin (b : Bank) : Axle → Nat
  | .front => wordAt b.t4 4
  | .rear => wordAt b.t4 7
def Bank.iMax (b : Bank) : Axle → Nat
  | .front => wordAt b.t4 5
  | .rear => wordAt b.t4 8
def Bank.iFallback (b : Bank) : Axle → Nat
  | .front => wordAt b.t4 6
  | .rear => wordAt b.t4 9
def Bank.pwmPeriod (b : Bank) : Nat := wordAt b.t4 10
def Bank.boostStep (b : Bank) : Nat := wordAt b.t4 11
def Bank.boostBand (b : Bank) : Nat := wordAt b.t4 12
def Bank.boostTimeout (b : Bank) : Nat := wordAt b.t4 13
def Bank.tolerance (b : Bank) : Nat := wordAt b.t4 14
def Bank.settleCount (b : Bank) : Nat := wordAt b.t4 15
def Bank.faultCount (b : Bank) : Nat := wordAt b.t4 16
def Bank.vLow (b : Bank) : Nat := wordAt b.t4 17
def Bank.vCut (b : Bank) : Nat := wordAt b.t4 18

/-- A current clamped into the range of a corner's axle (R101, R111, R127). -/
def Bank.clampCurrent (b : Bank) (c : Corner) (i : Nat) : Nat := clampNat (b.iMin (axleOf c)) (b.iMax (axleOf c)) i

/-- The PWM period in force: 1000 µs while ACTIVE is not valid (R108). -/
def Tables.pwmPeriod (t : Tables) : Nat := if t.activeValid then t.active.pwmPeriod else Config.pwmPeriodInvalid

/-! ### T5: preview -/

def Bank.previewEnable (b : Bank) : Nat := wordAt b.t5 0
def Bank.trigger (b : Bank) : Nat := wordAt b.t5 1
def Bank.wheelbase (b : Bank) : Nat := wordAt b.t5 2
def Bank.minimumSpeed (b : Bank) : Nat := wordAt b.t5 3
def Bank.bandBound (b : Bank) (i : Nat) : Nat := wordAt b.t5 (4 + 3 * i)
def Bank.bandScale (b : Bank) (i : Nat) : Nat := wordAt b.t5 (4 + 3 * i + 1)
def Bank.bandHold (b : Bank) (i : Nat) : Nat := wordAt b.t5 (4 + 3 * i + 2)

/-! ### Whole tables -/

/-- The words of a table by its number; a number above 5 names none (R151, R152). -/
def Bank.table (b : Bank) : Nat → Option (List Word)
  | 0 => some b.t0
  | 1 => some b.t1
  | 2 => some b.t2
  | 3 => some b.t3
  | 4 => some b.t4
  | 5 => some b.t5
  | _ => none

/-- The bank with a table's words replaced. -/
def Bank.setTable (b : Bank) (n : Nat) (t : List Word) : Bank :=
  match n with
  | 0 => { b with t0 := t }
  | 1 => { b with t1 := t }
  | 2 => { b with t2 := t }
  | 3 => { b with t3 := t }
  | 4 => { b with t4 := t }
  | 5 => { b with t5 := t }
  | _ => b

/-- A table with a span of words written from an offset on (R151). -/
def writeSpan (t : List Word) (o : Nat) (ws : List Word) : List Word := t.take o ++ ws ++ t.drop (o + ws.length)

/-- Whether the tables of a bank have their lengths (R148). -/
def Bank.wf (b : Bank) : Bool :=
  decide (b.t0.length = 36 ∧ b.t1.length = 8 ∧ b.t2.length = 96 ∧ b.t3.length = 160 ∧ b.t4.length = 20 ∧
    b.t5.length = 16)

/-! ### The validation walk -/

/-- `lo ≤ v ≤ hi`. -/
def within (lo hi v : Nat) : Bool := decide (lo ≤ v ∧ v ≤ hi)

/-- The checks made at a word of T0 (R149, R194). -/
def checkT0 (t : List Word) (o : Nat) : Bool :=
  match o % 4 with
  | 0 => !(t.getD o 0#16).msb || (t.getD o 0#16).extractLsb' 9 6 == 0#6
  | 1 => !(t.getD (o - 1) 0#16).msb || within 0 7 (wordAt t o)
  | _ => true

/-- The checks made at a word of T1 (R149, R156); the ident checks look at ACTIVE and the gate. -/
def checkT1 (t active : List Word) (gateOpen : Bool) (o : Nat) : Bool :=
  let v := wordAt t o
  match o with
  | 0 => within 1000 5000 v
  | 1 => within 2 16 v
  | 2 => within 4 12 v
  | 3 => within 1 511 v && (!gateOpen || v == wordAt active 3)
  | 4 => within 0 511 v && (v == 0 || v != wordAt t 3) && (!gateOpen || v == wordAt active 4)
  | 5 => within 2 50 v
  | 6 => true
  | 7 => within 0 1 v
  | _ => true

/-- The checks made at a word of T2 (R149, R156). -/
def checkT2 (t : List Word) (o : Nat) : Bool :=
  let v := wordAt t o
  match o % 4 with
  | 0 => within 0 9000 v && (o % 32 == 0 || decide (wordAt t (o - 4) < v))
  | 3 => within 0 12000 v
  | _ => within 0 20000 v

/-- The checks made at a word of T3 (R149, R156). -/
def checkT3 (t : List Word) (o : Nat) : Bool :=
  let v := wordAt t o
  if o % 80 < 8 then within 0 2000 v && (o % 80 == 0 || decide (wordAt t (o - 1) < v))
  else if o % 80 < 16 then within 0 12000 v && (o % 80 == 8 || decide (wordAt t (o - 1) < v))
  else within 0 2000 v

/-- The checks made at a word of T4 (R150, R156). -/
def checkT4 (t : List Word) (o : Nat) : Bool :=
  let v := wordAt t o
  match o with
  | 0 | 1 | 2 | 3 => within 1000 20000 v
  | 4 | 5 | 7 | 8 => within 0 2000 v
  | 6 => within 0 2000 v && within (wordAt t 4) (wordAt t 5) v
  | 9 => within 0 2000 v && within (wordAt t 7) (wordAt t 8) v
  | 10 => within 50 1000 v
  | 11 => within 50 1000 v
  | 12 => within 10 200 v
  | 13 => within 1 20 v
  | 14 => within 20 500 v
  | 15 => within 2 32 v
  | 16 => within 2 16 v
  | 17 => within 8000 12000 v
  | 18 => decide (6000 ≤ v) && decide (v + 500 ≤ wordAt t 17)
  | 19 => v == 0
  | _ => true

/-- The checks made at a word of T5 (R150, R156). -/
def checkT5 (t : List Word) (o : Nat) : Bool :=
  let v := wordAt t o
  match o with
  | 0 => within 0 1 v
  | 1 => within 50 1500 v
  | 2 => within 2000 3800 v
  | 3 => within 100 3000 v
  | 4 => within 0 2000 v
  | 7 | 10 | 13 => within 0 2000 v && decide (wordAt t (o - 3) < v)
  | 5 | 8 | 11 | 14 => within 0 256 v
  | 6 | 9 | 12 | 15 => within 1 255 v
  | _ => true

/-- The first offset below `n` at which a check fails. -/
def firstBad (check : Nat → Bool) (n : Nat) : Option Nat := (List.range n).find? fun o => !check o

/-- The COMMIT validation walk (R155): tables in number order, words in ascending offset; the table and offset of the
first word at which a check fails, or `none` when every check passes. -/
def validate (staged active : Bank) (gateOpen : Bool) : Option (Nat × Nat) :=
  ((firstBad (checkT0 staged.t0) 36).map fun o => (0, o)) <|>
  ((firstBad (checkT1 staged.t1 active.t1 gateOpen) 8).map fun o => (1, o)) <|>
  ((firstBad (checkT2 staged.t2) 96).map fun o => (2, o)) <|>
  ((firstBad (checkT3 staged.t3) 160).map fun o => (3, o)) <|>
  ((firstBad (checkT4 staged.t4) 20).map fun o => (4, o)) <|>
  ((firstBad (checkT5 staged.t5) 16).map fun o => (5, o))

end Sys2Proof.Machine
end

