-- ==== Sys2Proof/Machine/Ops.lean ====
section
/-! DEFINITION. The operations every block shares: the transmitter and its arbiter, offering a frame to an insert queue,
answering a request, and settling. -/

namespace Sys2Proof.Machine

/-! ### Transmitter (R171, R172) -/

/-- A free transmitter starts a frame when one of its sources holds one, chosen by the wait count (R171); the wait count
changes as R172 gives. A busy transmitter, or one with nothing to start, is left as it is. -/
def PortUnit.start (u : PortUnit) : PortUnit :=
  match u.line, u.fifo, u.insert with
  | some _, _, _ => u
  | none, [], [] => u
  | none, f :: fs, [] => { u with fifo := fs, line := some { frame := f, inserted := false } }
  | none, [], g :: gs => { u with insert := gs, line := some { frame := g, inserted := true }, waitCount := 0 }
  | none, f :: fs, g :: gs =>
    if Config.waitLimit ≤ u.waitCount then
      { u with insert := gs, line := some { frame := g, inserted := true }, waitCount := 0 }
    else
      { u with fifo := fs, line := some { frame := f, inserted := false }, waitCount := u.waitCount + 1 }

/-- A frame joins the tail of the forward FIFO, and starts if the transmitter is free (R169, R171). -/
def PortUnit.pushForward (u : PortUnit) (f : Frame) : PortUnit := ({ u with fifo := u.fifo ++ [f] }).start

/-- A frame joins the tail of the insert queue, and starts if the transmitter is free (R170, R171). -/
def PortUnit.pushInsert (u : PortUnit) (f : Frame) : PortUnit := ({ u with insert := u.insert ++ [f] }).start

/-- The port's counters with INSERT_LOST increased by 1 (R170). -/
def PortUnit.countLost (u : PortUnit) : PortUnit :=
  { u with counters := { u.counters with insertLost := u.counters.insertLost + 1 } }

/-- Offering a frame the part originates to a port's insert queue: below `limit` frames in the queue it joins, otherwise
it is dropped, counted and flagged (R170). -/
def offerFrame (limit : Nat) (p : Port) (f : Frame) (s : State) : State :=
  if (s.port p).insert.length < limit then s.setPort p ((s.port p).pushInsert f)
  else setFlag .insertLost (s.setPort p (s.port p).countLost)

/-! ### Answering requests (R180) -/

/-- The reply of a request that has ended, offered to its arrival port; none when the request is quiet and the result OK
(R180). -/
def answer (r : Request) (result : Result) (data : List Word) (s : State) : State :=
  if r.quiet && result == .ok then s
  else offerFrame Config.insertPlaces r.port (replyFrame s.link.nodeAddress r.tag result data) s

/-- The request in execution ends with this result and leaves the queue (R178). -/
def endExecuting (result : Result) (data : List Word) (s : State) : State :=
  match s.mgmt.executing with
  | none => s
  | some r => answer r result data { s with mgmt := { s.mgmt with executing := none } }

/-- A request stays in execution at the head of the queue (R178). -/
def keepExecuting (r : Request) (s : State) : State := { s with mgmt := { s.mgmt with executing := some r } }

/-! ### Settling (R130) -/

/-- Settling starts at a corner: settle remaining becomes the settle count of ACTIVE, both counts 0 (R130). -/
def startSettling (c : Corner) (s : State) : State :=
  s.setMonitor c { s.monitorOf c with settle := s.tables.active.settleCount, deviation := 0, stuck := 0 }

/-- A monitor test running at a corner that leaves HOLD ends ABORTED; its request is answered, whatever its quiet flag,
with the judged count (R138). The deviation count is 0 afterwards (log entry 9). -/
def abortTest (c : Corner) (s : State) : State :=
  match (s.monitorOf c).test with
  | none => s
  | some t =>
    endExecuting .aborted [natWord t.judged]
      (s.setMonitor c { s.monitorOf c with test := none, deviation := 0 })

end Sys2Proof.Machine
end

