-- ==== Sys2Proof/Machine/Capture.lean ====
section
/-! DEFINITION. Signal Capture: extraction of samples, the snapshot and the ageing of the live store (chapter 2). -/

namespace Sys2Proof.Machine

/-- The low end of a signal's range (R23). -/
def signalLow : Signal → Int
  | .travelFL => -1200
  | .travelFR => -1200
  | .travelRL => -1200
  | .travelRR => -1200
  | .accelFL => -30000
  | .accelFR => -30000
  | .accelRL => -30000
  | .accelRR => -30000
  | .speed => -2000

/-- The high end of a signal's range (R23). -/
def signalHigh : Signal → Int
  | .travelFL => 1200
  | .travelFR => 1200
  | .travelRL => 1200
  | .travelRR => 1200
  | .accelFL => 30000
  | .accelFR => 30000
  | .accelRL => 30000
  | .accelRR => 30000
  | .speed => 9000

/-- The extracted value of a raw sample: scaled by gain / 256 to nearest, halves away from zero, plus offset (R27). -/
def extract (raw gain offset : Int) : Int := roundAway (raw * gain) 256 + offset

/-- The extracted value clamped to the signal's range (R27). -/
def clampSignal (g : Signal) (v : Int) : Int := clampInt (signalLow g) (signalHigh g) v

/-- Writing an extracted value (R27, R28): the live value clamped, the age 0, the clamp count raised (saturating at 65535)
and SIGNAL_CLAMPED set when the clamp changed the value. -/
def writeSignal (g : Signal) (v : Int) (s : State) : State :=
  let clamped := decide (clampSignal g v ≠ v)
  let old := s.capture.live.get g
  let new : Live :=
    { value := clampSignal g v, age := 0, clamps := if clamped then min 65535 (old.clamps + 1) else old.clamps }
  setFlagIf clamped .signalClamped (s.setLive (s.capture.live.set g new))

/-- Serving one signal's row for a SAMPLE frame of this ident and payload (R26): a row that names another ident is not
served, a row whose word index is not below the length is skipped and counted in SHORT. -/
def serveRow (ident : Nat) (payload : List Word) (g : Signal) (s : State) : State :=
  match s.tables.row g with
  | .unmapped => s
  | .mapped id wordIndex gain offset =>
    if id = ident then
      match payload[wordIndex]? with
      | none => { s with capture := { s.capture with short := s.capture.short + 1 } }
      | some w => writeSignal g (extract w.toInt gain offset) s
    else s

/-- Signal Capture reads a SAMPLE frame (R25, R26): every MAPPED row that names its ident is served. -/
def readSample (ident : Nat) (payload : List Word) (s : State) : State :=
  signals.foldl (fun s' g => serveRow ident payload g s') s

/-- The judgement of a signal in a snapshot (R31), with the stale limit and the row of the bank the cycle fixes. -/
def isStale (b : Bank) (g : Signal) (age : Nat) : Bool :=
  decide (b.staleLimit ≤ age) || decide (b.row g = .unmapped) || decide (age = Config.ageMax)

/-- The snapshot of the nine signals (R29, R31). -/
def takeSnapshot (s : State) : PerSignal Sample :=
  PerSignal.ofFn fun g =>
    { value := (s.capture.live.get g).value, age := (s.capture.live.get g).age,
      stale := isStale s.tables.active g (s.capture.live.get g).age }

/-- The mark's k added to every live age, saturating at 255 (R30). -/
def ageSignals (k : Nat) (s : State) : State :=
  s.setLive (PerSignal.ofFn fun g =>
    { s.capture.live.get g with age := min Config.ageMax ((s.capture.live.get g).age + k) })

/-- Whether a snapshot holds a STALE signal (R32). -/
def anyStale (p : PerSignal Sample) : Bool := signals.any fun g => (p.get g).stale

/-- The live store at a swap (R34): every signal whose row changed takes age 255, value and clamp count kept. -/
def swapCapture (old : Tables) (s : State) : State :=
  s.setLive (PerSignal.ofFn fun g =>
    if old.row g = s.tables.row g then s.capture.live.get g
    else { s.capture.live.get g with age := Config.ageMax })

end Sys2Proof.Machine
end

