-- ==== Sys2Proof/Machine/Drive.lean ====
section
/-! DEFINITION. The Drive Unit and the Drive Gate: duties, state changes of a corner, target updates, the boost arbiter,
opening and closing the gate (chapters 7 and 8). -/

namespace Sys2Proof.Machine

/-! ### Duty (R109) -/

/-- The feed-forward duty of a current at a corner (R109): I × R / V rounded half up, clamped to 0..980. -/
def feedForward (s : State) (c : Corner) (i : Nat) : Nat :=
  min Config.dutyMax (roundHalfUp (i * s.tables.active.resistance c) s.supply.sample)

/-- The duty of a corner in a state at a target (R109). -/
def dutyOf (s : State) (c : Corner) (d : DriveState) (target : Nat) : Nat :=
  match d with
  | .off => 0
  | .hold => feedForward s c target
  | .wait _ => feedForward s c target
  | .boost _ => Config.dutyMax
  | .fault => 0

/-- Whether a state switches the output off (R107). -/
def DriveState.isOff : DriveState → Bool
  | .off => true
  | .hold => false
  | .wait _ => false
  | .boost _ => false
  | .fault => true

/-- Whether a corner is in HOLD or WAIT, driven at feed-forward duty (R107). -/
def DriveState.isHeld : DriveState → Bool
  | .off => false
  | .hold => true
  | .wait _ => true
  | .boost _ => false
  | .fault => false

/-- Whether a corner is in HOLD, WAIT or BOOST (R107). -/
def DriveState.isDriven (d : DriveState) : Bool := !d.isOff

/-- A drive record enters or stays in a state at a target, its duty formed anew (R109). Its output is switched off at once
in OFF and FAULT, for the rest of the period in progress (R108). -/
def enter (c : Corner) (d : DriveState) (target : Nat) (s : State) : State :=
  s.setCorner c { s.corner c with
    state := d, target := target, duty := dutyOf s c d target,
    outputDuty := if d.isOff then 0 else (s.corner c).outputDuty }

/-- The duty of a corner in HOLD or WAIT formed anew (R109, R110). -/
def reformDuty (c : Corner) (s : State) : State :=
  if (s.corner c).state.isHeld then enter c (s.corner c).state (s.corner c).target s else s

/-! ### State changes of a corner -/

/-- A corner enters HOLD from another state (R107, R130). -/
def toHold (c : Corner) (target : Nat) (s : State) : State := startSettling c (enter c .hold target s)

/-- A corner goes from HOLD to WAIT at the tail of the pending list, with its request base (R116). -/
def toWait (c : Corner) (target : Nat) (s : State) : State :=
  let s1 := enter c (.wait (s.corner c).target) target s
  startSettling c (abortTest c (s1.setWaiting (s1.drive.waiting ++ [c])))

/-- A corner takes a boost slot and goes to BOOST; its timer starts with the boost timeout of ACTIVE (R116, R117). -/
def toBoost (c : Corner) (target : Nat) (s : State) : State :=
  let s1 := enter c (.boost s.tables.active.boostTimeout) target s
  abortTest c (s1.setSlots (s1.drive.slots ++ [c]))

/-- A corner goes to OFF with its target kept (R126, R135). -/
def toOff (c : Corner) (s : State) : State :=
  startSettling c (abortTest c (enter c .off (s.corner c).target s))

/-- A corner in HOLD or WAIT takes a new target, its duty formed anew; a change of value starts settling (R112, R113,
R127, R130). -/
def retarget (c : Corner) (target : Nat) (s : State) : State :=
  let s1 := enter c (s.corner c).state target s
  if target = (s.corner c).target then s1 else startSettling c s1

/-! ### The boost arbiter (R115 to R117) -/

/-- Whether a boost slot is free (R115). -/
def slotFree (s : State) : Bool := decide (s.drive.slots.length < Config.boostSlots)

/-- A free slot goes to the head of the pending list, with the target it holds (R117). -/
def grantHead (s : State) : State :=
  match s.drive.waiting with
  | [] => s
  | c :: rest =>
    if slotFree s then toBoost c (s.corner c).target (s.setWaiting rest) else s

/-- The boost of a corner ends: it goes to HOLD, its slot is freed and granted again (R114, R117, R119, R120). -/
def endBoost (c : Corner) (target : Nat) (s : State) : State :=
  let s1 := toHold c target s
  grantHead (s1.setSlots (s1.drive.slots.erase c))

/-- A boost request: a free slot is taken, otherwise the corner waits (R116). -/
def requestBoost (c : Corner) (target : Nat) (s : State) : State :=
  if slotFree s then toBoost c target s else toWait c target s

/-! ### Target updates (R111 to R114) -/

/-- Whether `new − old` is at or above the boost step of ACTIVE (R112, R113). -/
def stepsUp (s : State) (new old : Nat) : Bool := decide ((s.tables.active.boostStep : Int) ≤ (new : Int) - old)

/-- A target update event at one corner (R111 to R114, R116): I_new is clamped into the axle's range of ACTIVE, then
treated by the state the record is in. -/
def updateTarget (c : Corner) (iNew : Nat) (s : State) : State :=
  let t := s.tables.active.clampCurrent c iNew
  match (s.corner c).state with
  | .off => s
  | .fault => s
  | .hold => if stepsUp s t (s.corner c).target then requestBoost c t s else retarget c t s
  | .wait base =>
    if stepsUp s t base then retarget c t s
    else toHold c t (s.setWaiting (s.drive.waiting.erase c))
  | .boost timeout =>
    if (s.corner c).target ≤ t then enter c (.boost timeout) t s else endBoost c t s

/-- The class of a corner's update in a TOGETHER delivery, judged at the start of the event (R118 step 1). -/
inductive UpdateClass where
  | discarded
  | waitUpdate
  | direct
  | request
  deriving DecidableEq, Repr

/-- R118 step 1 at one corner. -/
def classify (s : State) (c : Corner) (iNew : Nat) : UpdateClass :=
  match (s.corner c).state with
  | .off => .discarded
  | .fault => .discarded
  | .wait _ => .waitUpdate
  | .boost _ => .direct
  | .hold => if stepsUp s (s.tables.active.clampCurrent c iNew) (s.corner c).target then .request else .direct

/-- The step of a corner's update at the start of the event (R111). -/
def updateStep (s : State) (targets : PerCorner Nat) (c : Corner) : Int :=
  (s.tables.active.clampCurrent c (targets.get c) : Int) - (s.corner c).target

/-- Places a corner behind every corner whose step is at least as large (R118 step 4). -/
def rankInsert (step : Corner → Int) (c : Corner) : List Corner → List Corner
  | [] => [c]
  | d :: ds => if step d < step c then c :: d :: ds else d :: rankInsert step c ds

/-- Corners ranked larger step first, equal steps in their given order (R118 step 4). -/
def rank (step : Corner → Int) (cs : List Corner) : List Corner :=
  cs.foldl (fun ranked c => rankInsert step c ranked) []

/-- The corners whose update falls in a class, in corner order. -/
def cornersIn (s : State) (targets : PerCorner Nat) (k : UpdateClass) : List Corner :=
  corners.filter fun c => classify s c (targets.get c) == k

/-- A TOGETHER delivery: one target update event at all four corners (R118). -/
def deliverTogether (targets : PerCorner Nat) (s : State) : State :=
  let update := fun (s' : State) (c : Corner) => updateTarget c (targets.get c) s'
  let request := fun (s' : State) (c : Corner) => requestBoost c (s.tables.active.clampCurrent c (targets.get c)) s'
  let s1 := (cornersIn s targets .waitUpdate).foldl update s
  let s2 := (cornersIn s targets .direct).foldl update s1
  (rank (updateStep s targets) (cornersIn s targets .request)).foldl request s2

/-- Every outstanding staggered update is cancelled (R124, R126). -/
def cancelStaggered (s : State) : State := s.setStaggered (PerCorner.all none)

/-- A STAGGERED delivery: FL's update at completion, the others held by timers of T_us / 4, T_us / 2 and 3 × T_us / 4
(R123). -/
def deliverStaggered (tUs : Nat) (targets : PerCorner Nat) (s : State) : State :=
  (updateTarget .fl targets.fl s).setStaggered
    { fl := none
      fr := some { target := targets.fr, offset := tUs / 4 }
      rl := some { target := targets.rl, offset := tUs / 2 }
      rr := some { target := targets.rr, offset := 3 * tUs / 4 } }

/-- Delivery at the completion of a cycle that is not a hold cycle (R122 to R124). -/
def deliver (b : Bank) (targets : PerCorner Nat) (s : State) : State :=
  let s1 := cancelStaggered s
  if b.isStaggered then deliverStaggered b.tUs targets s1 else deliverTogether targets s1

/-! ### The Drive Gate (R125, R126, R143) -/

/-- Every corner in HOLD, WAIT or BOOST goes to OFF (R126). -/
def allDrivenOff (s : State) : State :=
  corners.foldl (fun s' c => if (s'.corner c).state.isDriven then toOff c s' else s') s

/-- A close request: an OPEN gate closes with the request's cause, the driven corners go to OFF, the slots are freed, the
pending list emptied and the staggered updates cancelled; a CLOSED gate stays as it is (R143, R126). -/
def closeGate (cause : CloseCause) (s : State) : State :=
  if s.gate.isOpen then
    cancelStaggered (((allDrivenOff { s with gate := { isOpen := false, cause := cause } }).setSlots []).setWaiting [])
  else s

/-- The fallback current of a corner's axle in ACTIVE (R125). -/
def fallbackOf (s : State) (c : Corner) : Nat := s.tables.active.iFallback (axleOf c)

/-- The gate opens: each corner in OFF goes to HOLD at its axle's fallback current; the cause of the last close is kept
(R125, R144). -/
def openGate (s : State) : State :=
  corners.foldl (fun s' c => if (s'.corner c).state = .off then toHold c (fallbackOf s' c) s' else s')
    { s with gate := { s.gate with isOpen := true } }

/-! ### PWM periods (R108) -/

/-- A corner's record as its next PWM period starts: the output takes the record's duty, the length is the one in force
(R108). -/
def startPeriod (s : State) (c : Corner) : DriveRecord :=
  { s.corner c with outputDuty := (s.corner c).duty, periodLength := s.tables.pwmPeriod, periodEnded := false }

/-- The next PWM periods of the four corners start, together (R108). -/
def startPeriods (s : State) : State := { s with drive := { s.drive with corners := PerCorner.ofFn (startPeriod s) } }

/-- The state in which a measurement of a corner ends that corner's period: where its measurement has been taken already,
the four periods have started again meanwhile (log entry 23). -/
def runPeriod (c : Corner) (s : State) : State := if (s.corner c).periodEnded then startPeriods s else s

/-- A corner's PWM period has ended; with the last of the four the next periods start (R108; log entries 10 and 22). -/
def endPeriod (c : Corner) (s : State) : State :=
  let s1 := s.setCorner c { s.corner c with periodEnded := true }
  if corners.all fun d => (s1.corner d).periodEnded then startPeriods s1 else s1

end Sys2Proof.Machine
end

