-- ==== Sys2Proof/Machine/Monitor.lean ====
section
/-! DEFINITION. The Current Monitor's judgement of a measurement and the Supply Monitor's judgement of a sample
(chapter 8). -/

namespace Sys2Proof.Machine

/-- A fault is latched on a corner: cause written, CORNER_FAULT set, the corner put in FAULT (R121, R132, R133). A corner
already in FAULT has only its cause changed. -/
def latchFault (c : Corner) (cause : FaultCause) (s : State) : State :=
  let s1 := setFlag .cornerFault (s.setCorner c { s.corner c with cause := cause })
  if (s.corner c).state = .fault then s1
  else
    let s2 := enter c .fault (s.corner c).target s1
    startSettling c (abortTest c (s2.setWaiting (s2.drive.waiting.erase c)))

/-- Whether a current lies more than the tolerance of ACTIVE away from the corner's target (R132). -/
def deviates (s : State) (c : Corner) (m : Int) : Bool :=
  decide (s.tables.active.tolerance < (m - (s.corner c).target).natAbs)

/-- A judged measurement in HOLD or WAIT with no monitor test running (R132). -/
def judgeDriven (c : Corner) (m : Nat) (s : State) : State :=
  if deviates s c m then
    let n := (s.monitorOf c).deviation + 1
    let s1 := s.setMonitor c { s.monitorOf c with deviation := n }
    if s.tables.active.faultCount ≤ n then
      latchFault c (if m < Config.openLevel then .openCoil else .deviation) s1
    else s1
  else s.setMonitor c { s.monitorOf c with deviation := 0 }

/-- A judged measurement in OFF or FAULT (R133). -/
def judgeOff (c : Corner) (m : Nat) (s : State) : State :=
  if Config.stuckLevel < m then
    let n := (s.monitorOf c).stuck + 1
    let s1 := s.setMonitor c { s.monitorOf c with stuck := n }
    if s.tables.active.faultCount ≤ n then
      latchFault c .stuckOn (s1.setMonitor c { s1.monitorOf c with stuck := 0 })
    else s1
  else s.setMonitor c { s.monitorOf c with stuck := 0 }

/-- The offset a monitor test adds (R137). -/
def testOffset (s : State) : TestDirection → Int
  | .high => 2 * s.tables.active.tolerance
  | .low => -(2 * s.tables.active.tolerance)

/-- A judged measurement of the corner under a monitor test, and the end of the test (R137): data words are the outcome (0
PASS, 1 FAIL) and the judged count. -/
def judgeTest (c : Corner) (m : Nat) (t : MonitorTest) (s : State) : State :=
  let n := if deviates s c (m + testOffset s t.direction) then (s.monitorOf c).deviation + 1 else 0
  let judged := t.judged + 1
  if s.tables.active.faultCount ≤ n then
    endExecuting .ok [0#16, natWord judged] (s.setMonitor c { s.monitorOf c with test := none, deviation := 0 })
  else if s.tables.active.faultCount + Config.testMargin ≤ judged then
    endExecuting .ok [1#16, natWord judged]
      (setFlag .monitorFailed (s.setMonitor c { s.monitorOf c with test := none, deviation := 0 }))
  else s.setMonitor c { s.monitorOf c with test := some { t with judged := judged }, deviation := n }

/-- A measurement handed to the Current Monitor (R131): not judged while ACTIVE is not valid, ignored while settling,
otherwise judged by the corner's state. -/
def judge (c : Corner) (m : Nat) (s : State) : State :=
  if !s.tables.activeValid then s
  else if 0 < (s.monitorOf c).settle then
    s.setMonitor c { s.monitorOf c with settle := (s.monitorOf c).settle - 1 }
  else
    match (s.corner c).state, (s.monitorOf c).test with
    | .hold, some t => judgeTest c m t s
    | .hold, none => judgeDriven c m s
    | .wait _, _ => judgeDriven c m s
    | .off, _ => judgeOff c m s
    | .fault, _ => judgeOff c m s
    | .boost _, _ => s

/-- LOW judged on the latest sample (R140). -/
def judgeLow (s : State) : State :=
  if s.supply.sample < s.tables.active.vLow then
    setFlag .supplyLow { s with supply := { s.supply with low := true } }
  else if s.tables.active.vLow + Config.lowHysteresis ≤ s.supply.sample then
    { s with supply := { s.supply with low := false } }
  else s

/-- The cut judged on the latest sample (R141). -/
def judgeCut (s : State) : State :=
  if s.supply.sample < s.tables.active.vCut then closeGate .supplyCut (setFlag .supplyCut s) else s

/-- Both judgements in their order (R139, R142). -/
def judgeSupply (s : State) : State := judgeCut (judgeLow s)

end Sys2Proof.Machine
end

