-- ==== Sys2Proof/Machine/Timing.lean ====
section
/-! DEFINITION. Cycle Timing and the bank swap: mark sources, the selected source, the swap with its side effects, serving a
mark and starting a cycle (chapters 1 and 9). -/

namespace Sys2Proof.Machine

/-! ### The preview flush (R75) -/

/-- The preview queue is emptied without applying its entries, and both sides are ARMED; the windows stay (R75). -/
def Engine.flushPreview (e : Engine) : Engine := { e with queue := [], sides := ⟨.armed, .armed⟩ }

/-! ### The selected source (R5 to R7) -/

/-- The selected source as a function of the two source states (R5). -/
def selectionOf (p : PerSource SourceState) : Option Source :=
  match p.a, p.b with
  | .alive _, _ => some .a
  | .silent, .alive _ => some .b
  | .silent, .silent => none

/-- The selected source changes to A or B (R6): baseline cleared, hold-cycle request flag set, SOURCE_SWITCH set. -/
def selectSource (src : Source) (s : State) : State :=
  setFlag .sourceSwitch
    { s with timing := { s.timing with selected := some src, baseline := none, holdRequest := true } }

/-- A pending programme becomes current and its SET_PROGRAMME ends with OK (R54, R55). -/
def applyProgramme (s : State) : State :=
  match s.engine.pendingProgramme with
  | none => s
  | some p => endExecuting .ok [] { s with engine := { s.engine with programme := p, pendingProgramme := none } }

/-- The close request and sticky flag of a change of the selected source to NONE (R7). -/
def closeForSilence (s : State) : State := setFlag .marksSilent (closeGate .marksSilent s)

/-- A change of the selected source to NONE with no COMMIT pending (R7, R55). -/
def loseSource (s : State) : State :=
  applyProgramme (closeForSilence { s with timing := { s.timing with selected := none } })

/-- The selected source re-evaluated where no COMMIT is pending (R5). -/
def reselect (s : State) : State :=
  if selectionOf s.timing.sources = s.timing.selected then s
  else
    match selectionOf s.timing.sources with
    | some src => selectSource src s
    | none => loseSource s

/-! ### The swap (R157) -/

/-- A source whose ident the swap changed becomes SILENT, its timer stopped; then the selection is re-evaluated (R4). -/
def swapTiming (old : Tables) (s : State) : State :=
  reselect (s.setSources
    { a := if old.active.identA = s.tables.active.identA then s.timing.sources.a else .silent
      b := if old.active.identB = s.tables.active.identB then s.timing.sources.b else .silent })

/-- The Control Engine's own side effect (R18, R90): the preview flush after a change of T5 enable or wheelbase, owed to
the completion while a cycle computes. -/
def swapPreview (old : Tables) (s : State) : State :=
  if old.active.previewEnable = s.tables.active.previewEnable ∧ old.active.wheelbase = s.tables.active.wheelbase then s
  else if s.engine.computing.isSome then { s with engine := { s.engine with flushOwed := true } }
  else { s with engine := s.engine.flushPreview }

/-- The clamp of one corner's target at a swap of T4, and its duty formed anew (R127 steps 1 and 3). -/
def swapCorner (c : Corner) (s : State) : State :=
  let t := s.tables.active.clampCurrent c (s.corner c).target
  if (s.corner c).state.isHeld then retarget c t s else s.setCorner c { s.corner c with target := t }

/-- The held target of an outstanding staggered update clamped at a swap of T4 (R127 step 2). -/
def clampStaggered (b : Bank) (c : Corner) (u : Option Staggered) : Option Staggered :=
  u.map fun h => { h with target := b.clampCurrent c h.target }

/-- The Drive Unit's side effects of a swap that changes T4 (R127). -/
def swapDrive (old : Tables) (s : State) : State :=
  if old.active.t4 = s.tables.active.t4 then s
  else
    let s1 := corners.foldl (fun s' c => swapCorner c s') s
    s1.setStaggered (PerCorner.ofFn fun c => clampStaggered s.tables.active c (s1.drive.staggered.get c))

/-- The Supply Monitor's side effect: a change of V_low or V_cut judges the latest sample again (R142). -/
def swapSupply (old : Tables) (s : State) : State :=
  if old.active.vLow = s.tables.active.vLow ∧ old.active.vCut = s.tables.active.vCut then s else judgeSupply s

/-- The Current Monitor's side effect: a swap that lowers the settle count lowers settle remaining where it is higher
(R142; log entry 14). -/
def swapMonitor (old : Tables) (s : State) : State :=
  if s.tables.active.settleCount < old.active.settleCount then
    { s with
      monitor := PerCorner.ofFn fun c =>
        { s.monitorOf c with settle := min (s.monitorOf c).settle s.tables.active.settleCount } }
  else s

/-- ACTIVE takes the content of STAGED, ACTIVE-valid is set and commit-pending cleared (R157). -/
def copyStaged (s : State) : State :=
  { s with tables := { s.tables with active := s.tables.staged, activeValid := true, commitPending := false } }

/-- A swap with every block's side effects (R157). -/
def performSwap (s : State) : State :=
  let old := s.tables
  swapMonitor old (swapSupply old (swapDrive old (swapPreview old (swapTiming old (swapCapture old (copyStaged s))))))

/-- A pending COMMIT is completed: its swap is performed and it is answered OK (R159, R160). -/
def completeCommit (s : State) : State :=
  if s.tables.commitPending then endExecuting .ok [] (performSwap s) else s

/-- The selected source re-evaluated at a mark or an expiry (R5 to R7): a change to NONE closes the gate, performs the swap
of a pending COMMIT (R160) and applies a pending programme (R55). The swap may close the gate too, for SUPPLY_CUT;
`swapFirst` says which of the two close requests is taken first (R143, R157; log entry 8). -/
def reevaluate (swapFirst : Bool) (s : State) : State :=
  if selectionOf s.timing.sources = s.timing.selected then s
  else
    match selectionOf s.timing.sources with
    | some src => selectSource src s
    | none =>
      let s1 := { s with timing := { s.timing with selected := none } }
      applyProgramme
        (if swapFirst then closeForSilence (completeCommit s1) else completeCommit (closeForSilence s1))

/-! ### Marks (R2, R8 to R10, R13) -/

/-- The source a MARK frame's ident belongs to; none while ACTIVE is not valid (R1). -/
def markSource (t : Tables) (ident : Nat) : Option Source :=
  if !t.activeValid then none
  else if ident = t.active.identA then some .a
  else if t.active.identB ≠ 0 ∧ ident = t.active.identB then some .b
  else none

/-- How a mark is judged against the baseline (R9): the k it is served with, or a duplicate; and whether MARK_GAP is set. -/
def judgeMark (baseline : Option Word) (seq : Word) : Option Nat × Bool :=
  match baseline with
  | none => (some 1, false)
  | some base =>
    let d := (seq - base).toNat
    if d = 0 then (none, false)
    else if d = 1 then (some 1, false)
    else if d ≤ 4 then (some d, true)
    else if d ≤ 32767 then (some 4, true)
    else (some 1, true)

/-- Stages 1 and 2 of the cycle a served mark starts (R13, R29, R30, R32): the pending swap, the pending programme, the
hold-cycle decision, the snapshot and the ageing; the inputs are then fixed and the engine is COMPUTING. -/
def startCycle (k : Nat) (seq : Word) (number : Count) (s : State) : State :=
  let swapped := s.tables.commitPending
  let s1 := completeCommit s
  let applied := s1.engine.pendingProgramme.isSome
  let s2 := applyProgramme s1
  let hold := s2.timing.holdRequest || swapped || applied
  let reselected := decide (s1.timing.selected ≠ s.timing.selected) && s1.timing.selected.isSome
  let s3 := { s2 with timing := { s2.timing with holdRequest := reselected } }
  let snapshot := takeSnapshot s3
  let s4 := setFlagIf (anyStale snapshot) .signalStale (ageSignals k s3)
  let inputs : Cycle :=
    { bank := s4.tables.active, programme := s4.engine.programme, k := k, snapshot := snapshot, seq := seq,
      number := number, hold := hold }
  { s4 with engine := { s4.engine with computing := some inputs } }

/-- A mark is served (R10). -/
def serveMark (p : Port) (seq : Word) (k : Nat) (s : State) : State :=
  let number := s.timing.served + 1
  startCycle k seq number
    { s with timing := { s.timing with baseline := some seq, served := number, reportPort := p } }

/-- A mark of the selected source is examined (R8, R9). -/
def examineMark (p : Port) (seq : Word) (s : State) : State :=
  if s.engine.computing.isSome then
    setFlag .markSkipped { s with timing := { s.timing with skipped := s.timing.skipped + 1 } }
  else
    match judgeMark s.timing.baseline seq with
    | (none, _) => { s with timing := { s.timing with duplicate := s.timing.duplicate + 1 } }
    | (some k, gap) => serveMark p seq k (setFlagIf gap .markGap s)

/-- A source's silence timer restarted with the silence timeout of ACTIVE; the source is ALIVE (R2 steps 1 and 2). -/
def restartTimer (src : Source) (s : State) : State :=
  s.setSources (s.timing.sources.set src (.alive s.tables.active.silenceTimeout))

/-- R2 steps 1 and 2: the source's timer is restarted, and the selection re-evaluated when the source was SILENT. -/
def markArrives (src : Source) (s : State) : State :=
  if s.timing.sources.get src = .silent then reevaluate false (restartTimer src s) else restartTimer src s

/-- Cycle Timing reads a MARK frame (R2): a mark of the source that is then selected is examined, unless it has no
payload. -/
def readMark (p : Port) (ident : Nat) (payload : List Word) (s : State) : State :=
  match markSource s.tables ident with
  | none => s
  | some src =>
    match payload with
    | [] => markArrives src s
    | seq :: _ =>
      if (markArrives src s).timing.selected = some src then examineMark p seq (markArrives src s)
      else markArrives src s

end Sys2Proof.Machine
end

