-- ==== Sys2Proof/Machine/Cycle.lean ====
section
/-! DEFINITION. The computation of a control cycle, stages 3 to 9 (R14), as functions from the Control Engine's state and the
cycle's fixed inputs (chapters 3 to 6). -/

namespace Sys2Proof.Machine

/-! ### Stage 3: motion (R40 to R47) -/

/-- The damper velocity of a SEEDED corner with a fresh travel (R43): travel change × 100000 / (T_us × k), rounded to
nearest, halves away from zero, clamped to −2000..2000. -/
def damperVelocity (tUs k : Nat) (x xPrev : Int) : Int :=
  clampInt (-2000) 2000 (roundAway ((x - xPrev) * 100000) (tUs * k))

/-- The increment of one nominal period from a fresh acceleration (R45). -/
def increment (tUs : Nat) (a : Int) : Int := roundAway (a * tUs * 256) 1000000

/-- One integrator step (R46): leak truncated toward zero, increment, clamp. -/
def integrateStep (leakShift : Nat) (inc vb : Int) : Int :=
  clampInt (-256000) 256000 (vb - vb.tdiv (2 ^ leakShift) + inc)

/-- k integrator steps with one increment (R46). -/
def integrate (leakShift : Nat) (inc : Int) : Nat → Int → Int
  | 0, vb => vb
  | k + 1, vb => integrate leakShift inc k (integrateStep leakShift inc vb)

/-- The estimation record of a corner after stage 3 (R40 to R47). -/
def estimate (y : Cycle) (c : Corner) (e : Estimation) : Estimation :=
  let travel := y.snapshot.get (travelOf c)
  let accel := y.snapshot.get (accelOf c)
  let inc := if accel.stale then 0 else increment y.bank.tUs accel.value
  let vd := if travel.stale then 0
    else if e.seeded then damperVelocity y.bank.tUs y.k travel.value e.xPrev else 0
  { xPrev := if travel.stale then e.xPrev else travel.value
    seeded := !travel.stale
    vbQ := integrate y.bank.leakShift inc y.k e.vbQ
    lastVd := vd
    lastTravelLost := travel.stale
    lastSkyLost := accel.stale }

/-- Stage 3 (R39). -/
def stageMotion (y : Cycle) (e : Engine) : Engine :=
  { e with est := PerCorner.ofFn fun c => estimate y c (e.est.get c) }

/-! ### Stage 4: odometer (R48) -/

/-- The odometer after a cycle (R48). -/
def advance (y : Cycle) (odometer : Count) : Count :=
  let speed := y.snapshot.speed
  if speed.stale || decide (speed.value ≤ 0) then odometer
  else odometer + BitVec.ofNat 32 (speed.value.toNat * y.bank.tUs * y.k / 100)

/-- Stage 4 (R48). -/
def stageOdometer (y : Cycle) (e : Engine) : Engine := { e with odometer := advance y e.odometer }

/-! ### Stages 5 and 6: preview (R74 to R87) -/

/-- Whether preview is ACTIVE for the cycle (R74). -/
def previewIsActive (y : Cycle) : Bool :=
  decide (y.bank.previewEnable = 1) && !y.snapshot.speed.stale &&
    decide ((y.bank.minimumSpeed : Int) ≤ y.snapshot.speed.value)

/-- The due test of an entry (R78). -/
def isDue (wheelbase : Nat) (odometer : Count) (p : PreviewEntry) : Bool :=
  decide (wheelbase * 1000 ≤ (odometer - p.stamp).toNat ∧ (odometer - p.stamp).toNat < 2 ^ 31)

/-- The band of a peak (R80): of the bands with a lower bound at or below it, the one with the highest. -/
def bandOf (b : Bank) (peak : Nat) : Option Nat :=
  [0, 1, 2, 3].foldl (fun best i =>
    if b.bandBound i ≤ peak then
      match best with
      | none => some i
      | some j => if b.bandBound j ≤ b.bandBound i then some i else some j
    else best) none

/-- The window of a rear corner opened or restarted by a band (R81). -/
def openWindow (b : Bank) (band : Nat) (w : Window) : Window :=
  { remaining := b.bandHold band
    scale := if w.remaining = 0 then b.bandScale band else min w.scale (b.bandScale band) }

/-- A removed entry applied to its side's window (R80, R81); an entry without a band is discarded. -/
def applyEntry (b : Bank) (p : PreviewEntry) (ws : PerSide Window) : PerSide Window :=
  match bandOf b p.peak with
  | none => ws
  | some band => ws.set p.side (openWindow b band (ws.get p.side))

/-- Stage 5 on the queue (R79): due entries are removed from the head and applied, up to the first that is not due. -/
def takeDue (b : Bank) (odometer : Count) : List PreviewEntry → PerSide Window → List PreviewEntry × PerSide Window
  | [], ws => ([], ws)
  | p :: ps, ws =>
    if isDue b.wheelbase odometer p then takeDue b odometer ps (applyEntry b p ws) else (p :: ps, ws)

/-- The open entry of a side is closed (R77, R86, R87). -/
def closeEntry (side : Side) (q : List PreviewEntry) : List PreviewEntry :=
  q.map fun p => if p.side = side ∧ p.isOpen then { p with isOpen := false } else p

/-- The peak of a side's open entry is raised to a front speed (R86). -/
def raisePeak (side : Side) (v : Nat) (q : List PreviewEntry) : List PreviewEntry :=
  q.map fun p => if p.side = side ∧ p.isOpen then { p with peak := max p.peak v } else p

/-- A side becomes ARMED and its open entry, if any, is closed (R77). -/
def armSide (side : Side) (e : Engine) : Engine :=
  { e with queue := closeEntry side e.queue, sides := e.sides.set side .armed }

/-- A side opens an event (R84), or finds the queue full (R85). -/
def openEvent (side : Side) (vd : Int) (e : Engine) : Engine :=
  let e1 := { e with sides := e.sides.set side .inEvent }
  let entry : PreviewEntry :=
    { side := side, kind := if 0 < vd then .bump else .dip, stamp := e.odometer, peak := vd.natAbs, isOpen := true }
  if e.queue.length < Config.previewPlaces then { e1 with queue := e.queue ++ [entry] }
  else { e1 with previewFull := e.previewFull + 1 }

/-- Stage 6 at one side (R83): judged on its front corner's travel and damper velocity. -/
def detectSide (y : Cycle) (side : Side) (e : Engine) : Engine :=
  let vd := (e.est.get (frontOf side)).lastVd
  if (y.snapshot.get (travelOf (frontOf side))).stale then armSide side e
  else
    match e.sides.get side with
    | .armed => if y.bank.trigger ≤ vd.natAbs then openEvent side vd e else e
    | .inEvent =>
      if vd.natAbs < y.bank.trigger / 2 then armSide side e
      else { e with queue := raisePeak side vd.natAbs e.queue }

/-- Stage 5 in a cycle in which preview is ACTIVE (R78 to R82). -/
def stageTake (y : Cycle) (e : Engine) : Engine :=
  let r := takeDue y.bank e.odometer e.queue e.windows
  { e with queue := r.1, windows := r.2 }

/-- Stages 5 and 6 (R74, R75, R83). -/
def stagePreview (y : Cycle) (e : Engine) : Engine :=
  let e1 := { e with previewActive := previewIsActive y }
  if previewIsActive y then detectSide y .right (detectSide y .left (stageTake y e1)) else e1.flushPreview

/-! ### Stage 7: schedule (R59 to R63) -/

/-- A schedule value at a lookup speed (R60 to R62); `f` is 1 c_sky, 2 c_base, 3 f_max. -/
def scheduleAt (b : Bank) (p : Programme) (speed f : Nat) : Nat :=
  if speed ≤ b.schedule p 0 0 then b.schedule p 0 f
  else if b.schedule p 7 0 ≤ speed then b.schedule p 7 f
  else
    let i := segmentOf (fun j => b.schedule p j 0) speed
    interpolate (b.schedule p i f) (b.schedule p (i + 1) f)
      (segmentFraction speed (b.schedule p i 0) (b.schedule p (i + 1) 0))

/-- Stage 7 (R59, R63). -/
def stageSchedule (y : Cycle) (e : Engine) : Engine :=
  let speed := y.snapshot.speed.value.natAbs
  { e with
    lookupSpeed := speed
    cSky := scheduleAt y.bank y.programme speed 1
    cBase := scheduleAt y.bank y.programme speed 2
    fMax := scheduleAt y.bank y.programme speed 3 }

/-! ### Stage 8: demand force (R64 to R71, R88) -/

/-- The skyhook force wanted (R65). -/
def wantedForce (cSky : Nat) (vb : Int) : Int := roundAway (-(cSky : Int) * vb) 256000

/-- The base force (R66). -/
def baseForce (cBase : Nat) (vd : Int) : Nat := roundHalfUp (cBase * vd.natAbs) 1000

/-- The skyhook term (R67). -/
def skyForce (cSky : Nat) (vb vd : Int) (skyLost : Bool) : Nat :=
  let want := wantedForce cSky vb
  if skyLost then 0
  else if (0 < want ∧ 0 < vd) ∨ (want < 0 ∧ vd < 0) then want.natAbs else 0

/-- The force scaled by a rear window (R69). -/
def scaleByWindow (w : Window) (f : Nat) : Nat := if 0 < w.remaining then f * w.scale / 256 else f

/-- The force of a corner scaled by its rear window, if it has one (R69). -/
def scaleForce (ws : PerSide Window) (c : Corner) (f : Nat) : Nat :=
  match windowSide c with
  | none => f
  | some d => scaleByWindow (ws.get d) f

/-- A window counted down by k (R88). -/
def countDown (k : Nat) (w : Window) : Window := { w with remaining := w.remaining - k }

/-- The force items of a corner (R65 to R70). -/
def forceOf (e : Engine) (c : Corner) : Nat × Nat :=
  let m := e.est.get c
  let sky := skyForce e.cSky m.vbQ m.lastVd m.lastSkyLost
  (sky, scaleForce e.windows c (min (baseForce e.cBase m.lastVd + sky) e.fMax))

/-- Stage 8 (R64, R88): the forces, then the windows counted down. -/
def stageForce (y : Cycle) (e : Engine) : Engine :=
  { e with
    results := PerCorner.ofFn (fun c => { e.results.get c with fSky := (forceOf e c).1, fDem := (forceOf e c).2 })
    windows := { left := countDown y.k e.windows.left, right := countDown y.k e.windows.right } }

/-! ### Stage 9: valve map (R96 to R104) -/

/-- An input clamped to the ends of its axis (R97). -/
def clampAxis (point : Nat → Nat) (x : Nat) : Nat := clampNat (point 0) (point 7) x

/-- The segment and fraction of a clamped input (R98). -/
def place (point : Nat → Nat) (x : Nat) : Nat × Nat :=
  if point 7 ≤ x then (6, 256)
  else (segmentOf point x, segmentFraction x (point (segmentOf point x)) (point (segmentOf point x + 1)))

/-- The map current of an axle at a damper speed and a force (R97 to R100): force first at both velocity points, then
velocity. -/
def mapCurrentAt (b : Bank) (x : Axle) (u f : Nat) : Nat :=
  let v := place (b.velocityPoint x) (clampAxis (b.velocityPoint x) u)
  let w := place (b.forcePoint x) (clampAxis (b.forcePoint x) f)
  let lower := interpolate (b.mapCurrent x v.1 w.1) (b.mapCurrent x v.1 (w.1 + 1)) w.2
  let upper := interpolate (b.mapCurrent x (v.1 + 1) w.1) (b.mapCurrent x (v.1 + 1) (w.1 + 1)) w.2
  interpolate lower upper v.2

/-- A corner's kept items after stage 9 (R96, R101, R102, R104). -/
def valveOf (y : Cycle) (e : Engine) (c : Corner) : Results :=
  let r := e.results.get c
  let m := e.est.get c
  let current := if m.lastTravelLost then y.bank.iFallback (axleOf c)
    else mapCurrentAt y.bank (axleOf c) m.lastVd.natAbs r.fDem
  { r with
    source := if m.lastTravelLost then .fallback else .map
    mapCurrent := current
    target := y.bank.clampCurrent c current }

/-- Stage 9 (R96, R104). -/
def stageValve (y : Cycle) (e : Engine) : Engine :=
  { e with results := PerCorner.ofFn fun c => valveOf y e c }

/-! ### The whole computation (R14, R15) -/

/-- Stages 3 to 9 in order (R14). -/
def computeCycle (y : Cycle) (e : Engine) : Engine :=
  stageValve y (stageForce y (stageSchedule y (stagePreview y (stageOdometer y (stageMotion y e)))))

/-- The results written at completion, with a preview flush that was owed (R15, R18); the engine returns to IDLE. -/
def finishCycle (y : Cycle) (e : Engine) : Engine :=
  let e1 := computeCycle y e
  let e2 := if e1.flushOwed then { e1.flushPreview with flushOwed := false } else e1
  { e2 with computing := none }

/-- Whether the cycle was refused an entry at the full preview queue (R85): its count moved. -/
def refusedEntry (y : Cycle) (e : Engine) : Bool := decide ((computeCycle y e).previewFull ≠ e.previewFull)

/-- The four targets of a cycle, as the engine keeps them (R103, R104). -/
def targetsOf (e : Engine) : PerCorner Nat := PerCorner.ofFn fun c => (e.results.get c).target

/-! ### The REPORT (R189, R190) -/

/-- The drive states of the four corners as one number (R193). -/
def driveStatesCode (s : State) : Nat :=
  (s.corner .fl).state.code * 125 + (s.corner .fr).state.code * 25 + (s.corner .rl).state.code * 5 +
    (s.corner .rr).state.code

/-- The eight payload words of a REPORT (R190, R193). -/
def reportWords (y : Cycle) (s : State) : List Word :=
  [ natWord (s.gate.isOpen.toNat * 32768 + s.gate.cause.code * 4096 + s.engine.programme.code * 1024 +
      selectedCode s.timing.selected * 256 + y.hold.toNat * 128),
    s.mgmt.flags,
    natWord (s.corner .fl).target, natWord (s.corner .fr).target,
    natWord (s.corner .rl).target, natWord (s.corner .rr).target,
    natWord (driveStatesCode s * 64 + s.engine.queue.length),
    y.seq ]

/-- The REPORT frame (R190). -/
def reportFrame (y : Cycle) (s : State) : Frame :=
  sealFrame (headerWord kindReport 8#4 (s.link.nodeAddress.setWidth 9) :: reportWords y s)

/-- Whether a cycle is reported: its number leaves no remainder divided by the report divider plus one (R20, R189). -/
def isReported (y : Cycle) : Bool := decide (y.number.toNat % (y.bank.reportDivider + 1) = 0)

/-- The REPORT offered to the report port when the cycle is reported (R20, R189). -/
def makeReport (y : Cycle) (s : State) : State :=
  if isReported y then offerFrame Config.reportLimit s.timing.reportPort (reportFrame y s) s else s

end Sys2Proof.Machine
end

