-- ==== Sys2Proof/Machine/Events.lean ====
section
/-! DEFINITION. The meanings of the part's own events: reception, transmit completion, timers, completion of a computation,
and the measurements. An event that does not occur in the present state leaves the state as it is (log entry 1); while a
reset is in progress none of them occurs (R175, log entry 5). -/

namespace Sys2Proof.Machine

/-! ### Receiving requests (R177, R182) -/

/-- The request record of a consumed REQUEST frame (R177). -/
def requestOf (p : Port) (word0 : Word) (operands : List Word) : Request :=
  { tag := requestTag word0, quiet := requestQuiet word0, command := requestCommand word0, operands := operands,
    port := p }

/-- The owner of a cancelled request undoes its waiting state (R182 step 2): commit-pending cleared (R161), pending programme
none (R56), monitor test ended with its deviation count 0 (R138). -/
def cancelWaiting (r : Request) (s : State) : State :=
  if r.command = codeCommit then { s with tables := { s.tables with commitPending := false } }
  else if r.command = codeSetProgramme then { s with engine := { s.engine with pendingProgramme := none } }
  else if r.command = codeMonitorTest then
    { s with
      monitor := PerCorner.ofFn (fun c =>
        if (s.monitorOf c).test.isSome then { s.monitorOf c with test := none, deviation := 0 } else s.monitorOf c) }
  else s

/-- Data of ABORT's reply (R182, R192): number removed, tag of the cancelled request or 65535. -/
def abortData (s : State) : List Word :=
  [ natWord s.mgmt.queue.length,
    match s.mgmt.executing with
    | none => 65535#16
    | some r => r.tag.setWidth 16 ]

/-- ABORT (R182). -/
def abortRequests (r : Request) (s : State) : State :=
  let s1 := match s.mgmt.executing with
    | none => s
    | some x => cancelWaiting x s
  answer r .ok (abortData s) { s1 with mgmt := { s1.mgmt with executing := none, queue := [] } }

/-- Requests in the queue, the one in execution included (R177). -/
def queuedRequests (s : State) : Nat := s.mgmt.queue.length + s.mgmt.executing.isSome.toNat

/-- The Management Unit takes a consumed REQUEST (R177). -/
def takeRequestFrame (p : Port) (payload : List Word) (s : State) : State :=
  match payload with
  | [] => s
  | word0 :: operands =>
    let r := requestOf p word0 operands
    if r.command = codeAbort then abortRequests r s
    else if queuedRequests s < Config.requestPlaces then
      { s with mgmt := { s.mgmt with queue := s.mgmt.queue ++ [r] } }
    else offerFrame Config.insertPlaces p (replyFrame s.link.nodeAddress r.tag .busy []) s

/-! ### Receiving frames (R167, R168) -/

/-- The outcomes of a reception (R167). -/
inductive Reception where
  | check
  | format
  | consumed
  | full
  | accepted
  deriving DecidableEq, Repr

/-- How a port judges a reception (R167): the first condition that applies. -/
def judgeReception (s : State) (p : Port) (words : List Word) (delimited wholeWords : Bool) : Reception :=
  if !passesCheck words delimited wholeWords then .check
  else if !wellFormatted words then .format
  else if headerKind (frameHeader words) = kindRequest ∧ headerIdent (frameHeader words) = s.link.nodeAddress.toNat then
    .consumed
  else if Config.fifoPlaces ≤ (s.port (opposite p)).fifo.length then .full
  else .accepted

/-- The counters after a reception: RECEIVED and exactly one of the five (R167). -/
def countReception (k : Counters) : Reception → Counters
  | .check => { k with received := k.received + 1, check := k.check + 1 }
  | .format => { k with received := k.received + 1, format := k.format + 1 }
  | .consumed => { k with received := k.received + 1, consumed := k.consumed + 1 }
  | .full => { k with received := k.received + 1, full := k.full + 1 }
  | .accepted => { k with received := k.received + 1, accepted := k.accepted + 1 }

/-- RECEIVED and the outcome counted on the receiving port (R167). -/
def countAt (p : Port) (o : Reception) (s : State) : State :=
  s.setPort p { s.port p with counters := countReception (s.port p).counters o }

/-- The blocks that read a frame's kind are handed it (R168): SAMPLE and MARK. -/
def handOver (p : Port) (words : List Word) (s : State) : State :=
  let h := frameHeader words
  if headerKind h = kindSample then readSample (headerIdent h) (framePayload words) s
  else if headerKind h = kindMark then readMark p (headerIdent h) (framePayload words) s
  else s

/-- A frame placed in the forward FIFO of the opposite port (R167, R169). -/
def forward (p : Port) (words : List Word) (s : State) : State :=
  s.setPort (opposite p) ((s.port (opposite p)).pushForward words)

/-- What a reception does after it is counted (R167, R168); `readFirst` orders the hand-over and the placing of an accepted
frame (log entry 7). -/
def receive (p : Port) (words : List Word) (readFirst : Bool) (s : State) : Reception → State
  | .check => setFlag .checkErrors s
  | .format => setFlag .checkErrors s
  | .consumed => takeRequestFrame p (framePayload words) s
  | .full => handOver p words (setFlag .fullDrops s)
  | .accepted => if readFirst then forward p words (handOver p words s) else handOver p words (forward p words s)

/-- RECEPTION_COMPLETION (R167, R168). While a reset is in progress the frame is lost, read by no block and counted
nowhere (R175). -/
def execReceptionCompletion (p : Port) (words : List Word) (delimited wholeWords readFirst : Bool) (s : State) :
    Host.Outcome State Fault Refusal :=
  if s.portsCutOff then .next s
  else
    let o := judgeReception s p words delimited wholeWords
    .next (receive p words readFirst (countAt p o s) o)

/-! ### Transmission (R173) -/

/-- The frame on a port's line has been sent: counted as forwarded or inserted, the transmitter free again (R173). -/
def PortUnit.complete (u : PortUnit) (t : Transmission) : PortUnit :=
  { u with
    line := none
    counters := if t.inserted then { u.counters with sentInserted := u.counters.sentInserted + 1 }
      else { u.counters with sentForwarded := u.counters.sentForwarded + 1 } }

/-- TRANSMIT_COMPLETION (R173): the free transmitter then starts a frame when it has one (R171). -/
def execTransmitCompletion (p : Port) (s : State) : Host.Outcome State Fault Refusal :=
  if s.resetInProgress then .next s
  else
    match (s.port p).line with
    | none => .next s
    | some t => .next (s.setPort p ((s.port p).complete t).start)

/-! ### Silence timers (R3) -/

/-- SILENCE_TIMER_EXPIRY (R3): the source becomes SILENT, its timer stops, the selection is re-evaluated. -/
def execSilenceTimerExpiry (src : Source) (swapFirst : Bool) (s : State) : Host.Outcome State Fault Refusal :=
  if s.resetInProgress then .next s
  else
    match s.timing.sources.get src with
    | .silent => .next s
    | .alive _ =>
      .next (reevaluate swapFirst (s.setSources (s.timing.sources.set src .silent)))

/-! ### Completion of a computation (R15, R16, R18, R20) -/

/-- The results written at the completion event, with PREVIEW_FULL set for a refused entry (R15, R85). -/
def writeResults (y : Cycle) (s : State) : State :=
  setFlagIf (refusedEntry y s.engine) .previewFull { s with engine := finishCycle y s.engine }

/-- Stage 10 (R15, R16, R20): delivery unless the cycle is a hold cycle, then the report. -/
def stageDelivery (y : Cycle) (s : State) : State :=
  makeReport y (if y.hold then s else deliver y.bank (targetsOf s.engine) s)

/-- COMPUTATION_COMPLETION (R15). -/
def execComputationCompletion (s : State) : Host.Outcome State Fault Refusal :=
  if s.resetInProgress then .next s
  else
    match s.engine.computing with
    | none => .next s
    | some y => .next (stageDelivery y (writeResults y s))

/-! ### Staggered updates and boosts (R120, R123) -/

/-- STAGGERED_UPDATE (R123): a staggered timer expires and its held target reaches its corner's record. -/
def execStaggeredUpdate (c : Corner) (s : State) : Host.Outcome State Fault Refusal :=
  if s.resetInProgress then .next s
  else
    match s.drive.staggered.get c with
    | none => .next s
    | some u =>
      .next (updateTarget c u.target (s.setStaggered (s.drive.staggered.set c none)))

/-- The boost-timeout count of a corner increased by 1 (R120). -/
def countTimeout (c : Corner) (s : State) : State :=
  s.setCorner c { s.corner c with timeouts := (s.corner c).timeouts + 1 }

/-- BOOST_TIMER_EXPIRY (R120). -/
def execBoostTimerExpiry (c : Corner) (s : State) : Host.Outcome State Fault Refusal :=
  if s.resetInProgress then .next s
  else
    match (s.corner c).state with
    | .boost _ => .next (endBoost c (s.corner c).target (setFlag .boostTimeout (countTimeout c s)))
    | .off => .next s
    | .hold => .next s
    | .wait _ => .next s
    | .fault => .next s

/-! ### Measurements (R108, R139) -/

/-- The measurement becomes the record's last measured current (R108 step 1). -/
def keepMeasurement (c : Corner) (m : Nat) (s : State) : State := s.setCorner c { s.corner c with measured := m }

/-- A measurement tested for the end of a boost, or handed to the Current Monitor (R108 steps 2 and 3, R119). -/
def actOnMeasurement (c : Corner) (m : Nat) (s : State) : State :=
  match (s.corner c).state with
  | .boost _ =>
    if ((s.corner c).target : Int) - s.tables.active.boostBand ≤ m then endBoost c (s.corner c).target s else s
  | .off => judge c m s
  | .hold => judge c m s
  | .wait _ => judge c m s
  | .fault => judge c m s

/-- CURRENT_MEASUREMENT (R108): the average current clamped at 2500 is acted on and the corner's period ends; the next
periods of the four corners start together, after the last of the four measurements (log entries 10, 22 and 23). -/
def execCurrentMeasurement (c : Corner) (average : Nat) (s : State) : Host.Outcome State Fault Refusal :=
  if s.resetInProgress then .next s
  else
    let m := min Config.currentMax average
    .next (endPeriod c (actOnMeasurement c m (keepMeasurement c m (runPeriod c s))))

/-- The sample becomes the latest supply sample (R139). -/
def keepSample (v : Nat) (s : State) : State := { s with supply := { s.supply with sample := v } }

/-- The duty of every corner in HOLD or WAIT formed anew (R110). -/
def reformDuties (s : State) : State := corners.foldl (fun s' c => reformDuty c s') s

/-- What a supply measurement event does after its sample is kept (R139). -/
def actOnSample (s : State) : State :=
  let s1 := if s.tables.activeValid then judgeSupply s else s
  if s1.gate.isOpen then reformDuties s1 else s1

/-- SUPPLY_MEASUREMENT (R139). A value above the sense input's full scale is no sample (log entry 13). -/
def execSupplyMeasurement (v : Nat) (s : State) : Host.Outcome State Fault Refusal :=
  if 20000 < v then .fault .illFormed
  else if s.resetInProgress then .next s
  else .next (actOnSample (keepSample v s))

end Sys2Proof.Machine
end

