-- ==== Sys2Proof/Machine/Requests.lean ====
section
/-! DEFINITION. The meanings of the queued requests: each is the execution event of the oldest queued request, when no request
is in execution (R178), its check (R179), its effect and its reply (R180, R181). When that request is of another command,
or there is none, the event does not occur and the state is left as it is (log entry 1). -/

namespace Sys2Proof.Machine

/-- The execution event of the oldest queued request when its command code passes a test (R178): it leaves the queue, and
`act` gives its check, effect and answer. -/
def execRequest (isIt : BitVec 7 → Bool) (act : Request → State → State) (s : State) :
    Host.Outcome State Fault Refusal :=
  if s.resetInProgress then .next s
  else
    match s.mgmt.executing, s.mgmt.queue with
    | none, r :: rest =>
      if isIt r.command then .next (act r { s with mgmt := { s.mgmt with queue := rest } }) else .next s
    | none, [] => .next s
    | some _, _ => .next s

/-- An INVALID request ends at once and leaves every block's state as it was (R179). -/
def invalid (r : Request) (s : State) : State := answer r .invalid [] s

/-- A REFUSED request with its reason (R180). -/
def refuse (r : Request) (reason : Word) (s : State) : State := answer r .refused [reason] s

/-! ### NOP (R181) -/

/-- NOP echoes its operand words (R181). -/
def doNop (r : Request) (s : State) : State := answer r .ok r.operands s

/-- NOP (R181). -/
def execNop (s : State) : Host.Outcome State Fault Refusal := execRequest (· == codeNop) doNop s

/-! ### LOAD, READ_TABLE, DISCARD (R151 to R154) -/

/-- Table of LOAD's first operand word, bits 15..13 (R192). -/
def loadTable (w : Word) : Nat := (w.extractLsb' 13 3).toNat

/-- Starting offset of LOAD's first operand word, bits 7..0 (R192). -/
def loadOffset (w : Word) : Nat := (w.extractLsb' 0 8).toNat

/-- The state with STAGED replaced, unless it is frozen (R154). -/
def writeStaged (b : Bank) (s : State) : State :=
  if s.tables.commitPending then s else { s with tables := { s.tables with staged := b } }

/-- LOAD (R151): all its words are written into STAGED, or it is INVALID. -/
def doLoad (r : Request) (s : State) : State :=
  match r.operands with
  | [] => invalid r s
  | _ :: [] => invalid r s
  | w :: x :: xs =>
    match s.tables.staged.table (loadTable w) with
    | none => invalid r s
    | some t =>
      if loadOffset w + (x :: xs).length ≤ t.length then
        answer r .ok []
          (writeStaged (s.tables.staged.setTable (loadTable w) (writeSpan t (loadOffset w) (x :: xs))) s)
      else invalid r s

/-- LOAD (R151). -/
def execLoad (s : State) : Host.Outcome State Fault Refusal := execRequest (· == codeLoad) doLoad s

/-- The bank an operand names (R152, R192). -/
def bankOf (t : Tables) (w : Word) : Option Bank :=
  if w = 0#16 then some t.active else if w = 1#16 then some t.staged else none

/-- READ_TABLE (R152). -/
def doReadTable (r : Request) (s : State) : State :=
  match r.operands with
  | bank :: table :: offset :: count :: _ =>
    match (bankOf s.tables bank).bind fun b => b.table table.toNat with
    | none => invalid r s
    | some t =>
      if within 1 7 count.toNat && decide (offset.toNat + count.toNat ≤ t.length) then
        answer r .ok ((t.drop offset.toNat).take count.toNat) s
      else invalid r s
  | _ => invalid r s

/-- READ_TABLE (R152). -/
def execReadTable (s : State) : Host.Outcome State Fault Refusal := execRequest (· == codeReadTable) doReadTable s

/-- DISCARD (R153). -/
def doDiscard (r : Request) (s : State) : State := answer r .ok [] (writeStaged s.tables.active s)

/-- DISCARD (R153). -/
def execDiscard (s : State) : Host.Outcome State Fault Refusal := execRequest (· == codeDiscard) doDiscard s

/-! ### COMMIT (R155 to R158) -/

/-- COMMIT (R155, R158): REJECTED at the first failing word; otherwise the swap at once with no source selected, or
commit-pending set and the request kept in execution. -/
def doCommit (r : Request) (s : State) : State :=
  match validate s.tables.staged s.tables.active s.gate.isOpen with
  | some (table, offset) => answer r .rejected [natWord table, natWord offset] s
  | none =>
    if s.timing.selected = none then answer r .ok [] (performSwap s)
    else keepExecuting r { s with tables := { s.tables with commitPending := true } }

/-- COMMIT (R155). -/
def execCommit (s : State) : Host.Outcome State Fault Refusal := execRequest (· == codeCommit) doCommit s

/-! ### SET_PROGRAMME (R53) -/

/-- SET_PROGRAMME (R53). -/
def doSetProgramme (r : Request) (s : State) : State :=
  match r.operands with
  | [] => invalid r s
  | w :: _ =>
    match programmeOf w.toNat with
    | none => invalid r s
    | some p =>
      if p = s.engine.programme then answer r .ok [] s
      else if s.timing.selected = none then
        answer r .ok [] { s with engine := { s.engine with programme := p } }
      else keepExecuting r { s with engine := { s.engine with pendingProgramme := some p } }

/-- SET_PROGRAMME (R53). -/
def execSetProgramme (s : State) : Host.Outcome State Fault Refusal :=
  execRequest (· == codeSetProgramme) doSetProgramme s

/-! ### ENABLE_DRIVE, DISABLE_DRIVE (R144, R145) -/

/-- ENABLE_DRIVE (R144). -/
def doEnableDrive (r : Request) (s : State) : State :=
  if s.gate.isOpen then answer r .ok [] s
  else if !s.tables.activeValid then refuse r reasonNoActive s
  else if s.timing.selected = none then refuse r reasonNoSource s
  else if s.supply.sample < s.tables.active.vLow then refuse r reasonSupplyLow s
  else answer r .ok [] (openGate s)

/-- ENABLE_DRIVE (R144). -/
def execEnableDrive (s : State) : Host.Outcome State Fault Refusal :=
  execRequest (· == codeEnableDrive) doEnableDrive s

/-- DISABLE_DRIVE (R145). -/
def doDisableDrive (r : Request) (s : State) : State := answer r .ok [] (closeGate .command s)

/-- DISABLE_DRIVE (R145). -/
def execDisableDrive (s : State) : Host.Outcome State Fault Refusal :=
  execRequest (· == codeDisableDrive) doDisableDrive s

/-! ### MONITOR_TEST (R136) -/

/-- The direction a code names (R192). -/
def directionOf : Nat → Option TestDirection
  | 0 => some .high
  | 1 => some .low
  | _ => none

/-- MONITOR_TEST at a corner and direction (R136). -/
def startTest (r : Request) (c : Corner) (d : TestDirection) (s : State) : State :=
  if (s.corner c).state ≠ .hold then refuse r reasonNotHold s
  else if 0 < (s.monitorOf c).settle then refuse r reasonNotSettled s
  else keepExecuting r
    (s.setMonitor c { s.monitorOf c with deviation := 0, test := some { direction := d, judged := 0 } })

/-- MONITOR_TEST (R136). -/
def doMonitorTest (r : Request) (s : State) : State :=
  match r.operands with
  | w :: x :: _ =>
    match cornerOf w.toNat, directionOf x.toNat with
    | some c, some d => startTest r c d s
    | _, _ => invalid r s
  | _ => invalid r s

/-- MONITOR_TEST (R136). -/
def execMonitorTest (s : State) : Host.Outcome State Fault Refusal :=
  execRequest (· == codeMonitorTest) doMonitorTest s

/-! ### CLEAR_FAULTS, CLEAR_FLAGS (R135, R187) -/

/-- A named corner's counts become 0, and a FAULT corner goes to HOLD at the fallback current with the gate OPEN, to OFF with
its target kept with the gate CLOSED (R135). -/
def clearFault (c : Corner) (s : State) : State :=
  let s1 := s.setMonitor c { s.monitorOf c with deviation := 0, stuck := 0 }
  let s2 := s1.setCorner c { s1.corner c with timeouts := 0 }
  if (s2.corner c).state = .fault then
    if s2.gate.isOpen then toHold c (fallbackOf s2 c) s2 else toOff c s2
  else s2

/-- The corners a mask names, in corner order: bit 0 FL to bit 3 RR (R192). -/
def maskCorners (w : Word) : List Corner := corners.filter fun c => w.getLsbD (cornerCode c)

/-- CLEAR_FAULTS (R135). -/
def doClearFaults (r : Request) (s : State) : State :=
  match r.operands with
  | [] => invalid r s
  | w :: _ => answer r .ok [] ((maskCorners w).foldl (fun s' c => clearFault c s') s)

/-- CLEAR_FAULTS (R135). -/
def execClearFaults (s : State) : Host.Outcome State Fault Refusal :=
  execRequest (· == codeClearFaults) doClearFaults s

/-- CLEAR_FLAGS (R187): the reply carries the flag word before and after. -/
def doClearFlags (r : Request) (s : State) : State :=
  match r.operands with
  | [] => invalid r s
  | w :: _ => answer r .ok [s.mgmt.flags, (clearFlags w s).mgmt.flags] (clearFlags w s)

/-- CLEAR_FLAGS (R187). -/
def execClearFlags (s : State) : Host.Outcome State Fault Refusal :=
  execRequest (· == codeClearFlags) doClearFlags s

/-! ### RESET_CONTROL (R188) -/

/-- A drive record after RESET_CONTROL (R129); its PWM period runs on (R108). -/
def resetRecord (r : DriveRecord) : DriveRecord :=
  { DriveRecord.reset r.periodLength with periodEnded := r.periodEnded }

/-- Every block within RESET_CONTROL's reach takes its RESET_CONTROL value (R19, R21, R22, R37, R51, R57, R92, R104, R129,
R147). -/
def resetControl (s : State) : State :=
  { s with
    engine := Engine.reset s.engine.programme
    timing := { s.timing with baseline := none, holdRequest := true }
    capture := (s.setLive (PerSignal.ofFn fun g => { s.capture.live.get g with age := Config.ageMax })).capture
    drive := { Drive.reset 0 with corners := PerCorner.ofFn (fun c => resetRecord (s.corner c)) }
    monitor := PerCorner.all MonitorRecord.reset
    gate := Gate.reset }

/-- RESET_CONTROL (R188). -/
def doResetControl (r : Request) (s : State) : State :=
  if s.gate.isOpen then refuse r reasonGateOpen s else answer r .ok [] (resetControl s)

/-- RESET_CONTROL (R188). -/
def execResetControl (s : State) : Host.Outcome State Fault Refusal :=
  execRequest (· == codeResetControl) doResetControl s

/-! ### UNKNOWN_COMMAND (R179) -/

/-- UNKNOWN_COMMAND (R179): a command that is none of the thirteen is answered INVALID. -/
def execUnknownCommand (s : State) : Host.Outcome State Fault Refusal := execRequest unknownCode invalid s

end Sys2Proof.Machine
end

