-- ==== Sys2Proof/Machine/ReadState.lean ====
section
/-! DEFINITION. READ_STATE: the pages of state and their data words (R184, R185, R193). -/

namespace Sys2Proof.Machine

/-- CORNERS page 3c (R193). -/
def pageMotion (s : State) (c : Corner) : List Word :=
  let e := s.engine.est.get c
  let r := s.engine.results.get c
  [intWord e.lastVd] ++ countWords (BitVec.ofInt 32 e.vbQ) ++
    [bitsWord [e.seeded, e.lastTravelLost, e.lastSkyLost], natWord r.fSky, natWord r.fDem]

/-- Target source codes (R193). -/
def TargetSource.code : TargetSource → Nat
  | .map => 0
  | .fallback => 1

/-- CORNERS page 3c + 1 (R193). -/
def pageDrive (s : State) (c : Corner) : List Word :=
  let r := s.engine.results.get c
  let d := s.corner c
  [natWord r.source.code, natWord r.mapCurrent, natWord r.target, natWord d.state.code, natWord d.target,
    natWord d.duty, natWord d.measured]

/-- CORNERS page 3c + 2 (R193). -/
def pageMonitor (s : State) (c : Corner) : List Word :=
  let d := s.corner c
  let m := s.monitorOf c
  [natWord d.cause.code] ++ countWords d.timeouts ++ [natWord m.settle, natWord m.deviation, natWord m.stuck]

/-- The pending list in one word: count in bits 15..13, corners in list order in bits 3..2 and 1..0 (R193). The manual gives
no fill for a corner field beyond the count: 0 there is the model's choice (log entry 21). -/
def waitingWord (cs : List Corner) : Word :=
  natWord (cs.length * 8192 + ((cs[0]?.map cornerCode).getD 0) * 4 + (cs[1]?.map cornerCode).getD 0)

/-- CORNERS page 12 (R193). -/
def pageSupervision (s : State) : List Word :=
  [waitingWord s.drive.waiting, natWord s.tables.active.isStaggered.toNat, natWord s.supply.sample,
    bitsWord [s.supply.low], natWord (s.gate.isOpen.toNat * 32768 + s.gate.cause.code)]

/-- A page of the selector CORNERS (R184). -/
def pageCorners (s : State) (page : Nat) : Option (List Word) :=
  if page = 12 then some (pageSupervision s)
  else
    (cornerOf (page / 3)).map fun c =>
      if page % 3 = 0 then pageMotion s c else if page % 3 = 1 then pageDrive s c else pageMonitor s c

/-- SIGNALS page 0 (R36, R193). -/
def pageSignals (s : State) (index : Nat) : Option (List Word) :=
  (signals[index]?).map fun g =>
    let v := s.capture.live.get g
    [natWord index, bitsWord [decide (s.tables.row g ≠ .unmapped)], intWord v.value, natWord v.age, natWord v.clamps] ++
      countWords s.capture.short

/-- PREVIEW page 0 (R193). -/
def pagePreviewState (s : State) : List Word :=
  [natWord s.engine.queue.length,
    bitsWord [s.engine.sides.left == .inEvent, s.engine.sides.right == .inEvent, s.engine.previewActive]] ++
    countWords s.engine.previewFull ++ countWords s.engine.odometer

/-- PREVIEW page 1 (R193). -/
def pageWindows (s : State) : List Word :=
  [natWord s.engine.queue.length, natWord s.engine.windows.left.remaining, natWord s.engine.windows.left.scale,
    natWord s.engine.windows.right.remaining, natWord s.engine.windows.right.scale]

/-- Up to three entries from a position toward the tail (R91). -/
def entriesFrom (s : State) (position : Nat) : List PreviewEntry := (s.engine.queue.drop position).take 3

/-- The three bits of an entry: side, kind, open, most significant first (R193). -/
def entryBits (p : PreviewEntry) : Nat :=
  (p.side == .right).toNat * 4 + (p.kind == .dip).toNat * 2 + p.isOpen.toNat

/-- The bits of up to three entries in bits 15..13, 12..10 and 9..7 (R193). -/
def entriesBits (ps : List PreviewEntry) : Nat :=
  ((ps[0]?.map entryBits).getD 0) * 8192 + ((ps[1]?.map entryBits).getD 0) * 1024 +
    ((ps[2]?.map entryBits).getD 0) * 128

/-- PREVIEW page 2 (R193). -/
def pageStamps (s : State) (position : Nat) : List Word :=
  natWord (entriesBits (entriesFrom s position) + s.engine.queue.length) ::
    (entriesFrom s position).flatMap fun p => countWords p.stamp

/-- PREVIEW page 3 (R193). -/
def pagePeaks (s : State) (position : Nat) : List Word :=
  natWord s.engine.queue.length ::
    (entriesFrom s position).flatMap fun p => [natWord p.peak, p.stamp.extractLsb' 0 16]

/-- A page of the selector PREVIEW (R91, R184). -/
def pagePreview (s : State) (argument page : Nat) : Option (List Word) :=
  match page with
  | 0 => some (pagePreviewState s)
  | 1 => some (pageWindows s)
  | 2 => if argument ≤ 15 then some (pageStamps s argument) else none
  | 3 => if argument ≤ 15 then some (pagePeaks s argument) else none
  | _ => none

/-- Whether a source is ALIVE (R2). -/
def SourceState.isAlive : SourceState → Bool
  | .silent => false
  | .alive _ => true

/-- CYCLE page 0 (R193). -/
def pageCycleState (s : State) : List Word :=
  [s.mgmt.flags,
    natWord (s.timing.sources.a.isAlive.toNat + s.timing.sources.b.isAlive.toNat * 2 +
      selectedCode s.timing.selected * 4 + s.engine.computing.isSome.toNat * 16 + s.timing.holdRequest.toNat * 32 +
      (s.timing.reportPort == .port2).toNat * 64 + s.tables.activeValid.toNat * 128 +
      s.timing.baseline.isSome.toNat * 256),
    s.timing.baseline.getD 0#16] ++
    countWords s.timing.served ++ countWords s.timing.skipped

/-- CYCLE page 1 (R193). -/
def pageSchedule (s : State) : List Word :=
  countWords s.timing.duplicate ++
    [natWord s.engine.programme.code, natWord s.engine.lookupSpeed, natWord s.engine.cSky, natWord s.engine.cBase,
      natWord s.engine.fMax]

/-- A page of the selector CYCLE (R184). -/
def pageCycle (s : State) (page : Nat) : Option (List Word) :=
  match page with
  | 0 => some (pageCycleState s)
  | 1 => some (pageSchedule s)
  | _ => none

/-- The port an argument names (R174). -/
def portOf : Nat → Option Port
  | 1 => some .port1
  | 2 => some .port2
  | _ => none

/-- COUNTERS page 0 of a port (R185): the nine counters are copied into the port's capture, and then cleared when the clear
flag is set. -/
def captureCounters (p : Port) (clear : Bool) (s : State) : State :=
  let s1 := { s with mgmt := { s.mgmt with captures := s.mgmt.captures.set p (s.port p).counters } }
  if clear then s1.setPort p { s1.port p with counters := Counters.zero } else s1

/-- Data words of COUNTERS page 0, read from the capture (R193). -/
def pageCounters0 (s : State) (p : Port) : List Word :=
  let k := s.mgmt.captures.get p
  [natWord ((s.port p).fifo.length * 4096 + (s.port p).insert.length * 512 + (s.port p).waitCount * 128 +
    s.link.nodeAddress.toNat)] ++
    countWords k.received ++ countWords k.accepted ++ countWords k.consumed

/-- Data words of COUNTERS page 1 (R193). -/
def pageCounters1 (s : State) (p : Port) : List Word :=
  let k := s.mgmt.captures.get p
  countWords k.check ++ countWords k.format ++ countWords k.full

/-- Data words of COUNTERS page 2 (R193). -/
def pageCounters2 (s : State) (p : Port) : List Word :=
  let k := s.mgmt.captures.get p
  countWords k.sentForwarded ++ countWords k.sentInserted ++ countWords k.insertLost

/-- READ_STATE with the selector COUNTERS (R185). A clear flag with page 1 or 2 is INVALID. -/
def readCounters (r : Request) (p : Port) (page : Nat) (clear : Bool) (s : State) : State :=
  match page with
  | 0 => answer r .ok (pageCounters0 (captureCounters p clear s) p) (captureCounters p clear s)
  | 1 => if clear then invalid r s else answer r .ok (pageCounters1 s p) s
  | 2 => if clear then invalid r s else answer r .ok (pageCounters2 s p) s
  | _ => invalid r s

/-- The data words of a page of the selectors CORNERS, SIGNALS, PREVIEW and CYCLE; `none` is INVALID (R184). -/
def statePage (s : State) (selector argument page : Nat) : Option (List Word) :=
  match selector with
  | 0 => pageCorners s page
  | 1 => if page = 0 then pageSignals s argument else none
  | 2 => pagePreview s argument page
  | 3 => pageCycle s page
  | _ => none

/-- Clear flag of READ_STATE's third operand word, bit 15 (R192). -/
def readClear (w : Word) : Bool := w.getLsbD 15

/-- Page of READ_STATE's third operand word, bits 7..0 (R192). -/
def readPage (w : Word) : Nat := (w.extractLsb' 0 8).toNat

/-- READ_STATE (R184, R185). -/
def doReadState (r : Request) (s : State) : State :=
  match r.operands with
  | selector :: argument :: w :: _ =>
    if selector = 4#16 then
      match portOf argument.toNat with
      | none => invalid r s
      | some p => readCounters r p (readPage w) (readClear w) s
    else
      match statePage s selector.toNat argument.toNat (readPage w) with
      | none => invalid r s
      | some data => answer r .ok data s
  | _ => invalid r s

/-- READ_STATE (R184). -/
def execReadState (s : State) : Host.Outcome State Fault Refusal := execRequest (· == codeReadState) doReadState s

end Sys2Proof.Machine
end

