-- ==== Sys2Proof/Machine/Resets.lean ====
section
/-! DEFINITION. The power-on reset, the RESET-line reset and their end (R166, R175, and every chapter's reset table). -/

namespace Sys2Proof.Machine

/-- Everything a power-on and a RESET-line reset have in common: every block but the banks at its reset value, the ports
silent, the commands that wait kept. The node address stays until it is sampled (R166), and the period lengths stay at
those of State.reset until RESET_END starts the periods (log entry 5). -/
def resetBlocks (tables : Tables) (flags : Word) (s : State) : State :=
  { State.reset with
    pending := s.pending
    resetInProgress := true
    link := { State.reset.link with nodeAddress := s.link.nodeAddress }
    tables := tables
    mgmt := { State.reset.mgmt with flags := flags } }

/-- The Table Store after a power-on reset (R162). -/
def Tables.powerOn : Tables :=
  { active := Bank.zero, staged := Bank.zero, activeValid := false, commitPending := false }

/-- POWER_ON_RESET (R191, R162): both banks cleared, POWER_ON set. -/
def execPowerOnReset (s : State) : Host.Outcome State Fault Refusal :=
  .next (resetBlocks Tables.powerOn Flag.powerOn.mask s)

/-- RESET_LINE_RESET (R175, R162, R191): the banks and their validity kept, POWER_ON kept, every other flag clear. -/
def execResetLineReset (s : State) : Host.Outcome State Fault Refusal :=
  .next (resetBlocks { s.tables with commitPending := false } (s.mgmt.flags &&& Flag.powerOn.mask) s)

/-- RESET_END (R166, R175): the straps are sampled as the node address, the ports and the four PWM periods
start (R108, R129). -/
def execResetEnd (straps : BitVec 6) (s : State) : Host.Outcome State Fault Refusal :=
  if s.resetInProgress then
    .next { s with
      resetInProgress := false
      link := { s.link with nodeAddress := straps }
      drive := (startPeriods s).drive }
  else .next s

end Sys2Proof.Machine
end

