-- ==== Sys2Proof/Machine/Dispatch.lean ====
section
/-! DEFINITION. One arm per command. -/

namespace Sys2Proof.Machine

def exec (i : Instr) (s : State) : Host.Outcome State Fault Refusal :=
  match i with
  | .receptionCompletion p ws d w o => Sys2Proof.Machine.execReceptionCompletion p ws d w o s
  | .transmitCompletion p => Sys2Proof.Machine.execTransmitCompletion p s
  | .silenceTimerExpiry src o => Sys2Proof.Machine.execSilenceTimerExpiry src o s
  | .computationCompletion => Sys2Proof.Machine.execComputationCompletion s
  | .staggeredUpdate c => Sys2Proof.Machine.execStaggeredUpdate c s
  | .boostTimerExpiry c => Sys2Proof.Machine.execBoostTimerExpiry c s
  | .currentMeasurement c m => Sys2Proof.Machine.execCurrentMeasurement c m s
  | .supplyMeasurement v => Sys2Proof.Machine.execSupplyMeasurement v s
  | .nop => Sys2Proof.Machine.execNop s
  | .load => Sys2Proof.Machine.execLoad s
  | .readTable => Sys2Proof.Machine.execReadTable s
  | .commit => Sys2Proof.Machine.execCommit s
  | .discard => Sys2Proof.Machine.execDiscard s
  | .setProgramme => Sys2Proof.Machine.execSetProgramme s
  | .enableDrive => Sys2Proof.Machine.execEnableDrive s
  | .disableDrive => Sys2Proof.Machine.execDisableDrive s
  | .monitorTest => Sys2Proof.Machine.execMonitorTest s
  | .clearFaults => Sys2Proof.Machine.execClearFaults s
  | .clearFlags => Sys2Proof.Machine.execClearFlags s
  | .readState => Sys2Proof.Machine.execReadState s
  | .resetControl => Sys2Proof.Machine.execResetControl s
  | .unknownCommand => Sys2Proof.Machine.execUnknownCommand s
  | .powerOnReset => Sys2Proof.Machine.execPowerOnReset s
  | .resetLineReset => Sys2Proof.Machine.execResetLineReset s
  | .resetEnd straps => Sys2Proof.Machine.execResetEnd straps s

end Sys2Proof.Machine
end

