-- ==== Sys2Proof/WellFormed.lean ====
section
/-! DEFINITION. Which commands are events of the part. -/

namespace Sys2Proof

/-- Full scale of the supply sense input, in mV (00_scope.md section 7, R139). -/
def supplyFullScale : Nat := 20000

/-- A command is well formed when its operands are ones the event can bring: a supply sample lies in 0..20000 (R139).
Every other operand's type holds only values its event can bring. -/
def Instr.wellFormed : Instr → Bool
  | .supplyMeasurement sample => decide (sample ≤ supplyFullScale)
  | .receptionCompletion _ _ _ _ _ => true
  | .transmitCompletion _ => true
  | .silenceTimerExpiry _ _ => true
  | .computationCompletion => true
  | .staggeredUpdate _ => true
  | .boostTimerExpiry _ => true
  | .currentMeasurement _ _ => true
  | .nop => true
  | .load => true
  | .readTable => true
  | .commit => true
  | .discard => true
  | .setProgramme => true
  | .enableDrive => true
  | .disableDrive => true
  | .monitorTest => true
  | .clearFaults => true
  | .clearFlags => true
  | .readState => true
  | .resetControl => true
  | .unknownCommand => true
  | .powerOnReset => true
  | .resetLineReset => true
  | .resetEnd _ => true

end Sys2Proof
end

