-- ==== Sys2Proof/Certificates/Slice0/Obligations.lean ====
section
/-! DEFINITION. The statements about the model, and the words they are written in. -/

namespace Sys2Proof.Machine

/-! ### The words of the statements -/

/-- A request of this command heads the queue, none is in execution and no reset is in progress: its execution event
(R178). -/
def AtExecution (s : State) (r : Request) (rest : List Request) (code : BitVec 7) : Prop :=
  s.resetInProgress = false ∧ s.mgmt.executing = none ∧ s.mgmt.queue = r :: rest ∧ r.command = code

/-- The state once that request has left the queue, nothing else changed. -/
def leaveQueue (s : State) (rest : List Request) : State := { s with mgmt := { s.mgmt with queue := rest } }

/-- The state with one port's counters replaced, nothing else changed. -/
def recount (s : State) (p : Port) (k : Counters) : State := s.setPort p { s.port p with counters := k }

/-- A cycle is in computation and no reset is in progress: its completion event may come (R12). -/
def AtCompletion (s : State) (y : Cycle) : Prop := s.resetInProgress = false ∧ s.engine.computing = some y

/-- Every flag but those listed is as it was. -/
def OtherFlagsKept (before after : Word) (changed : List Flag) : Prop :=
  ∀ f : Flag, f ∉ changed → f.isSet after = f.isSet before

/-- No monitor test runs. -/
def NoTest (s : State) : Prop := ∀ c, (s.monitorOf c).test = none

/-- The corner's monitor items when settling has started, no test running (R130). -/
def settling (s : State) : MonitorRecord :=
  { settle := s.tables.active.settleCount, deviation := 0, stuck := 0, test := none }

/-- The length of a PWM period that starts (R108). -/
def nextPeriod (s : State) : Nat := if s.tables.activeValid then s.tables.active.pwmPeriod else 1000

/-- The next PWM periods of the four corners have started, together: each output has the duty of its record, all the length in
force (R108). -/
def periodsStarted (s : State) : State :=
  { s with
    drive :=
      { s.drive with
        corners := PerCorner.ofFn fun d =>
          { s.corner d with outputDuty := (s.corner d).duty, periodLength := nextPeriod s, periodEnded := false } } }

/-- The state on which a measurement of this corner acts: measured already while another corner was not, it is measured again
only in the period that the four have started meanwhile (the model's choice, log entry 23). -/
def periodRunning (c : Corner) (s : State) : State := if (s.corner c).periodEnded then periodsStarted s else s

/-- The state once a measurement has acted and has ended the corner's period: the next periods of the four start after the last
of the four measurements, and until then the corner is only marked (R108; the model's reading, log entries 10 and 22). -/
def periodOver (c : Corner) (s : State) : State :=
  if corners.all fun d => d == c || (s.corner d).periodEnded then periodsStarted s
  else s.setCorner c { s.corner c with periodEnded := true }

/-- The records and monitor items of the corners not listed are as they were. -/
def OnlyCorners (s t : State) (cs : List Corner) : Prop :=
  ∀ c, c ∉ cs → t.corner c = s.corner c ∧ t.monitorOf c = s.monitorOf c

/-- Nothing outside the Drive Unit and the Current Monitor has changed, but for the flag word. -/
def OnlyDriveAndFlags (s t : State) : Prop :=
  t.pending = s.pending ∧ t.resetInProgress = s.resetInProgress ∧ t.link = s.link ∧ t.capture = s.capture ∧
    t.timing = s.timing ∧ t.engine = s.engine ∧ t.tables = s.tables ∧ t.supply = s.supply ∧ t.gate = s.gate ∧
    { t.mgmt with flags := s.mgmt.flags } = s.mgmt

/-- A corner's slot is freed: the head of the pending list, if there is one, leaves it, takes the slot and goes to BOOST at the
target it holds; no other corner but these two is touched (R117). -/
def SlotPassedOn (s t : State) (c : Corner) : Prop :=
  match s.drive.waiting with
  | [] => t.drive.slots = s.drive.slots.erase c ∧ t.drive.waiting = [] ∧ OnlyCorners s t [c]
  | d :: rest =>
    t.drive.slots = s.drive.slots.erase c ++ [d] ∧ t.drive.waiting = rest ∧
      t.corner d = { s.corner d with state := .boost s.tables.active.boostTimeout, duty := 980 } ∧
      t.monitorOf d = s.monitorOf d ∧ OnlyCorners s t [c, d]

/-- Whether the opposite forward FIFO has room for a frame received on this port (R167, R169). -/
def hasRoom (s : State) (p : Port) : Bool := decide ((s.port (opposite p)).fifo.length < 8)

/-- The state once an intact frame that is not consumed has been counted on its port: RECEIVED, and ACCEPTED with room for it
or FULL without (R167). -/
def countFrame (s : State) (p : Port) : State :=
  let k := { (s.port p).counters with received := (s.port p).counters.received + 1 }
  recount s p (if hasRoom s p then { k with accepted := k.accepted + 1 } else { k with full := k.full + 1 })

/-- A frame received on a port joins the tail of the opposite forward FIFO and starts on a free transmitter; without room for
it the frame goes no further (R167, R169, R171). -/
def placeFrame (room : Bool) (p : Port) (ws : List Word) (s : State) : State :=
  if room then
    s.setPort (opposite p) ({ s.port (opposite p) with fifo := (s.port (opposite p)).fifo ++ [ws] }).start
  else s

/-- The link after a SAMPLE or MARK frame by which no request ends: counted, and placed with room for it. -/
def linkAfter (s : State) (p : Port) (ws : List Word) : Link := (placeFrame (hasRoom s p) p ws (countFrame s p)).link

/-- The engine computes the cycle that a served mark starts, its inputs fixed: the ACTIVE bank, the current programme, the
mark's k and the snapshot of the live store with its judgement (R10, R13, R29, R31, R32); nothing else of it changes. -/
def CycleStarted (s t : State) (seq : Word) (k : Nat) (hold : Bool) : Prop :=
  match t.engine.computing with
  | none => False
  | some y =>
    { t.engine with computing := none } = { s.engine with computing := none } ∧
      y.bank = s.tables.active ∧ y.programme = s.engine.programme ∧ y.k = k ∧ y.seq = seq ∧
      y.number = s.timing.served + 1 ∧ y.hold = hold ∧
      Flag.signalStale.isSet t.mgmt.flags =
        (Flag.signalStale.isSet s.mgmt.flags || signals.any fun g => (y.snapshot.get g).stale) ∧
      ∀ g, (y.snapshot.get g).value = (s.capture.live.get g).value ∧
        (y.snapshot.get g).age = (s.capture.live.get g).age ∧
        ((y.snapshot.get g).stale = true ↔
          s.tables.active.staleLimit ≤ (s.capture.live.get g).age ∨ s.tables.active.row g = .unmapped ∨
            (s.capture.live.get g).age = 255)

/-- The k with which a mark is served, and whether MARK_GAP is set, by its distance from the baseline (R9). -/
def ServedBy (baseline : Option Word) (seq : Word) (k : Nat) (gap : Bool) : Prop :=
  (baseline = none → k = 1 ∧ gap = false) ∧
  ∀ base, baseline = some base →
    ((seq - base).toNat = 1 → k = 1 ∧ gap = false) ∧
    (2 ≤ (seq - base).toNat → (seq - base).toNat ≤ 4 → k = (seq - base).toNat ∧ gap = true) ∧
    (5 ≤ (seq - base).toNat → (seq - base).toNat ≤ 32767 → k = 4 ∧ gap = true) ∧
    (32768 ≤ (seq - base).toNat → k = 1 ∧ gap = true)

/-- The state with its pending programme applied: current, its request out of execution, the next cycle a hold cycle (R54). -/
def programmeApplied (g : Programme) (s : State) : State :=
  { s with
    engine := { s.engine with programme := g, pendingProgramme := none }
    timing := { s.timing with holdRequest := true }
    mgmt := { s.mgmt with executing := none } }

/-- The link after a served mark at which this request is answered OK: the reply is offered before the frame is placed where
the blocks read the frame first, and after it otherwise (R54, R159, R180; log entry 7). -/
def linkAnswered (s : State) (p : Port) (ws : List Word) (readFirst : Bool) (r : Request) : Link :=
  (if readFirst then placeFrame (hasRoom s p) p ws (answer r .ok [] (countFrame s p))
    else answer r .ok [] (placeFrame (hasRoom s p) p ws (countFrame s p))).link

/-- A mark of `src` received on a port is served and no swap is made: baseline, counts and report port of R10, a cycle of this
k, the ages grown by k (R30). `gap` says that MARK_GAP is set (R9), `switched` that the mark has first moved the selection to
its source (R6), which makes the cycle a hold cycle; `others` are flags of which nothing is said. -/
def CycleServed (s t : State) (p : Port) (src : Source) (seq : Word) (k : Nat) (gap switched : Bool) (others : List Flag) :
    Prop :=
  t.timing = { s.timing with
    sources := s.timing.sources.set src (.alive s.tables.active.silenceTimeout)
    selected := some src
    baseline := some seq
    holdRequest := false
    served := s.timing.served + 1
    reportPort := p } ∧
  CycleStarted s t seq k (s.timing.holdRequest || switched) ∧
  (∀ g, t.capture.live.get g = { s.capture.live.get g with age := min 255 ((s.capture.live.get g).age + k) }) ∧
  t.capture.short = s.capture.short ∧
  Flag.markGap.isSet t.mgmt.flags = (Flag.markGap.isSet s.mgmt.flags || gap) ∧
  Flag.sourceSwitch.isSet t.mgmt.flags = (Flag.sourceSwitch.isSet s.mgmt.flags || switched) ∧
  Flag.fullDrops.isSet t.mgmt.flags = (Flag.fullDrops.isSet s.mgmt.flags || !hasRoom s p) ∧
  OtherFlagsKept s.mgmt.flags t.mgmt.flags ([.markGap, .sourceSwitch, .signalStale, .fullDrops] ++ others) ∧
  t.tables = s.tables ∧ t.drive = s.drive ∧ t.monitor = s.monitor ∧ t.supply = s.supply ∧ t.gate = s.gate ∧
  { t.mgmt with flags := s.mgmt.flags } = s.mgmt

/-- A mark is served with no change pending, its frame forwarded. -/
def MarkServed (s t : State) (p : Port) (ws : List Word) (src : Source) (seq : Word) (k : Nat) (gap switched : Bool) :
    Prop :=
  CycleServed s t p src seq k gap switched [] ∧ t.link = linkAfter s p ws

/-- A mark has changed nothing but Cycle Timing, the flags listed, and the link by its forwarding. -/
def OnlyTimingAndLink (s t : State) (p : Port) (ws : List Word) (flags : List Flag) : Prop :=
  t.link = linkAfter s p ws ∧
    Flag.fullDrops.isSet t.mgmt.flags = (Flag.fullDrops.isSet s.mgmt.flags || !hasRoom s p) ∧
    OtherFlagsKept s.mgmt.flags t.mgmt.flags (.fullDrops :: flags) ∧
    { t.mgmt with flags := s.mgmt.flags } = s.mgmt ∧
    t.engine = s.engine ∧ t.capture = s.capture ∧ t.tables = s.tables ∧ t.drive = s.drive ∧ t.monitor = s.monitor ∧
    t.supply = s.supply ∧ t.gate = s.gate

/-- An OPEN gate has closed: every driven corner in OFF at duty 0, its output switched off, its target kept, settling; the
others as they were; slots free, pending list empty, staggered updates cancelled (R126, R130). -/
def DrivesSwitchedOff (s t : State) : Prop :=
  (∀ c, (s.corner c).state.isDriven = true →
    t.corner c = { s.corner c with state := .off, duty := 0, outputDuty := 0 } ∧ t.monitorOf c = settling s) ∧
  (∀ c, (s.corner c).state.isDriven = false → t.corner c = s.corner c ∧ t.monitorOf c = s.monitorOf c) ∧
  t.drive.slots = [] ∧ t.drive.waiting = [] ∧ ∀ c, t.drive.staggered.get c = none

/-- The Supply Monitor after a swap of `a` by `b`: the latest sample is judged again when V_low or V_cut changed (R142). -/
def SupplyJudgedAgain (s t : State) (a b : Bank) : Prop :=
  let v := s.supply.sample
  t.supply.sample = v ∧
  (a.vLow = b.vLow → a.vCut = b.vCut →
    t.supply.low = s.supply.low ∧ Flag.supplyLow.isSet t.mgmt.flags = Flag.supplyLow.isSet s.mgmt.flags ∧
      Flag.supplyCut.isSet t.mgmt.flags = Flag.supplyCut.isSet s.mgmt.flags) ∧
  (a.vLow ≠ b.vLow ∨ a.vCut ≠ b.vCut →
    (v < b.vLow → t.supply.low = true) ∧
    (b.vLow ≤ v → v < b.vLow + 300 → t.supply.low = s.supply.low) ∧
    (b.vLow + 300 ≤ v → t.supply.low = false) ∧
    Flag.supplyLow.isSet t.mgmt.flags = (Flag.supplyLow.isSet s.mgmt.flags || decide (v < b.vLow)) ∧
    Flag.supplyCut.isSet t.mgmt.flags = (Flag.supplyCut.isSet s.mgmt.flags || decide (v < b.vCut)))

/-- Monitor items after a swap of `a` by `b` that starts no settling: a lowered settle count lowers settle remaining (R142;
log entry 14). -/
def settleLowered (a b : Bank) (m : MonitorRecord) : MonitorRecord :=
  { m with settle := if b.settleCount < a.settleCount then min m.settle b.settleCount else m.settle }

/-- The drive records and monitor items after a swap of `a` by `b` that closes no gate: with T4 changed every target is
clamped, every held corner's duty formed anew, and a held corner whose target moved settles (R127, R130,
R142; log entry 14). -/
def RecordsSwapped (s t : State) (a b : Bank) : Prop :=
  t.drive.slots = s.drive.slots ∧ t.drive.waiting = s.drive.waiting ∧
  (a.t4 = b.t4 → t.drive = s.drive ∧ t.monitor = s.monitor) ∧
  (a.t4 ≠ b.t4 → ∀ c,
    let i := clampNat (b.iMin (axleOf c)) (b.iMax (axleOf c)) (s.corner c).target
    t.drive.staggered.get c = (s.drive.staggered.get c).map (fun h =>
      { h with target := clampNat (b.iMin (axleOf c)) (b.iMax (axleOf c)) h.target }) ∧
    ((s.corner c).state.isHeld = true →
      t.corner c =
        { s.corner c with
          target := i
          duty := min 980 (roundHalfUp (i * b.resistance c) s.supply.sample) } ∧
      t.monitorOf c =
        (if i = (s.corner c).target then settleLowered a b (s.monitorOf c)
          else { settle := b.settleCount, deviation := 0, stuck := 0, test := (s.monitorOf c).test })) ∧
    ((s.corner c).state.isHeld = false →
      t.corner c = { s.corner c with target := i } ∧ t.monitorOf c = settleLowered a b (s.monitorOf c)))

/-- The clamped target that a delivery brings to a corner (R111). -/
def broughtTo (targets : PerCorner Nat) (s : State) (c : Corner) : Nat :=
  clampNat (s.tables.active.iMin (axleOf c)) (s.tables.active.iMax (axleOf c)) (targets.get c)

/-- A corner in WAIT whose request still stands at its new target (R113). -/
def requestStands (targets : PerCorner Nat) (s : State) (c : Corner) : Bool :=
  match (s.corner c).state with
  | .wait base => decide ((s.tables.active.boostStep : Int) ≤ (broughtTo targets s c : Int) - base)
  | _ => false

/-- A corner in BOOST whose target is lowered (R114). -/
def boostLowered (targets : PerCorner Nat) (s : State) (c : Corner) : Bool :=
  match (s.corner c).state with
  | .boost _ => decide (broughtTo targets s c < (s.corner c).target)
  | _ => false

/-- A corner in HOLD whose step is at or above the boost step (R112). -/
def asksForBoost (targets : PerCorner Nat) (s : State) (c : Corner) : Bool :=
  decide ((s.corner c).state = .hold) &&
    decide ((s.tables.active.boostStep : Int) ≤ (broughtTo targets s c : Int) - (s.corner c).target)

/-- The pending list of a TOGETHER delivery once the withdrawn requests have left it (R118 step 2). -/
def keptWaiting (targets : PerCorner Nat) (s : State) : List Corner := s.drive.waiting.filter (requestStands targets s)

/-- How many slots the lowered targets of a TOGETHER delivery free (R118 step 3). -/
def freedSlots (targets : PerCorner Nat) (s : State) : Nat := (corners.filter (boostLowered targets s)).length

/-- The slots held before the requests of a TOGETHER delivery are ranked: those kept, and those passed on to the head of the
pending list (R118 step 3). -/
def slotsBeforeRequests (targets : PerCorner Nat) (s : State) : List Corner :=
  s.drive.slots.filter (fun c => !boostLowered targets s c) ++ (keptWaiting targets s).take (freedSlots targets s)

/-- The requests of a TOGETHER delivery, ranked (R118 step 4). -/
def rankedRequests (targets : PerCorner Nat) (s : State) : List Corner :=
  rank (fun c => (broughtTo targets s c : Int) - (s.corner c).target) (corners.filter (asksForBoost targets s))

/-- The requests of a TOGETHER delivery that take a slot, and those that join the pending list (R118 step 4). -/
def grantedRequests (targets : PerCorner Nat) (s : State) : List Corner :=
  (rankedRequests targets s).take (2 - (slotsBeforeRequests targets s).length)
def leftRequests (targets : PerCorner Nat) (s : State) : List Corner :=
  (rankedRequests targets s).drop (2 - (slotsBeforeRequests targets s).length)

/-- The REPORT of a cycle that completes between the states `s` and `t`, with this flag word: kind 4, its eight payload words
as R190 and R193 lay them out, the targets and drive states as they stand after the delivery. -/
def reportOf (s t : State) (y : Cycle) (flags : Word) : Frame :=
  sealFrame
    [headerWord 4#3 8#4 (s.link.nodeAddress.setWidth 9),
      natWord ((if s.gate.isOpen then 32768 else 0) + s.gate.cause.code * 4096 +
        s.engine.programme.code * 1024 + selectedCode s.timing.selected * 256 + if y.hold then 128 else 0),
      flags,
      natWord (t.corner .fl).target, natWord (t.corner .fr).target,
      natWord (t.corner .rl).target, natWord (t.corner .rr).target,
      natWord (((t.corner .fl).state.code * 125 + (t.corner .fr).state.code * 25 +
        (t.corner .rl).state.code * 5 + (t.corner .rr).state.code) * 64 + t.engine.queue.length),
      y.seq]

/-- Where each field of T1 lies, by word offset (R149, R194). -/
def ControlFields (b : Bank) : Prop :=
  b.tUs = wordAt b.t1 0 ∧ b.staleLimit = wordAt b.t1 1 ∧ b.leakShift = wordAt b.t1 2 ∧ b.identA = wordAt b.t1 3 ∧
    b.identB = wordAt b.t1 4 ∧ b.silenceTimeout = wordAt b.t1 5 ∧ b.reportDivider = wordAt b.t1 6 ∧
    (b.isStaggered = true ↔ wordAt b.t1 7 = 1)

/-- Where each field of T2 and T3 lies (R149): three programmes of eight points, two axles of sixteen breakpoints and
sixty-four currents. -/
def MapFields (b : Bank) : Prop :=
  (∀ p start, (p, start) ∈ [(Programme.touring, 0), (.balanced, 32), (.firm, 64)] →
    ∀ j f, b.schedule p j f = wordAt b.t2 (start + 4 * j + f)) ∧
  (∀ x start, (x, start) ∈ [(Axle.front, 0), (.rear, 80)] → ∀ i j,
    b.velocityPoint x i = wordAt b.t3 (start + i) ∧ b.forcePoint x j = wordAt b.t3 (start + 8 + j) ∧
      b.mapCurrent x i j = wordAt b.t3 (start + 16 + 8 * i + j))

/-- Where each field of T4 and T5 lies (R150). -/
def DriveFields (b : Bank) : Prop :=
  (∀ c o, (c, o) ∈ [(Corner.fl, 0), (.fr, 1), (.rl, 2), (.rr, 3)] → b.resistance c = wordAt b.t4 o) ∧
  (∀ x o, (x, o) ∈ [(Axle.front, 4), (.rear, 7)] →
    b.iMin x = wordAt b.t4 o ∧ b.iMax x = wordAt b.t4 (o + 1) ∧ b.iFallback x = wordAt b.t4 (o + 2)) ∧
  b.pwmPeriod = wordAt b.t4 10 ∧ b.boostStep = wordAt b.t4 11 ∧ b.boostBand = wordAt b.t4 12 ∧
  b.boostTimeout = wordAt b.t4 13 ∧ b.tolerance = wordAt b.t4 14 ∧ b.settleCount = wordAt b.t4 15 ∧
  b.faultCount = wordAt b.t4 16 ∧ b.vLow = wordAt b.t4 17 ∧ b.vCut = wordAt b.t4 18 ∧
  b.previewEnable = wordAt b.t5 0 ∧ b.trigger = wordAt b.t5 1 ∧ b.wheelbase = wordAt b.t5 2 ∧
  b.minimumSpeed = wordAt b.t5 3 ∧
  ∀ i, b.bandBound i = wordAt b.t5 (4 + 3 * i) ∧ b.bandScale i = wordAt b.t5 (5 + 3 * i) ∧
    b.bandHold i = wordAt b.t5 (6 + 3 * i)

/-- A monitor test runs at this corner alone, its request in execution (R136). -/
def TestRunsAt (s : State) (c : Corner) (x : MonitorTest) (r : Request) : Prop :=
  (s.corner c).state = .hold ∧ (s.monitorOf c).test = some x ∧ (∀ d, d ≠ c → (s.monitorOf d).test = none) ∧
    s.mgmt.executing = some r

/-- The state once the request of a monitor test has been answered ABORTED with the judged count (R138). -/
def abortAnswered (s : State) (x : MonitorTest) (r : Request) : State :=
  answer r .aborted [natWord x.judged] { s with mgmt := { s.mgmt with executing := none } }

/-- The number of words of each table (R148). -/
def tableSize : Nat → Nat
  | 0 => 36
  | 1 => 8
  | 2 => 96
  | 3 => 160
  | 4 => 20
  | 5 => 16
  | _ => 0

/-- A word's value lies in a range. -/
def Among (lo hi v : Nat) : Prop := lo ≤ v ∧ v ≤ hi

/-- Every check that a COMMIT makes at a word of T0 to T3, read from R149, R156 and R194: `b` is STAGED, `a` is ACTIVE. -/
def LowerWordPasses (b a : Bank) (gateOpen : Bool) (n o : Nat) : Prop :=
  (n = 0 → o % 4 = 0 → (b.t0.getD o 0#16).getLsbD 15 = true → (b.t0.getD o 0#16).extractLsb' 9 6 = 0#6) ∧
  (n = 0 → o % 4 = 1 → (b.t0.getD (o - 1) 0#16).getLsbD 15 = true → Among 0 7 (wordAt b.t0 o)) ∧
  (n = 1 → o = 0 → Among 1000 5000 (wordAt b.t1 0)) ∧
  (n = 1 → o = 1 → Among 2 16 (wordAt b.t1 1)) ∧
  (n = 1 → o = 2 → Among 4 12 (wordAt b.t1 2)) ∧
  (n = 1 → o = 3 → Among 1 511 (wordAt b.t1 3) ∧ (gateOpen = true → wordAt b.t1 3 = wordAt a.t1 3)) ∧
  (n = 1 → o = 4 → Among 0 511 (wordAt b.t1 4) ∧ (wordAt b.t1 4 = 0 ∨ wordAt b.t1 4 ≠ wordAt b.t1 3) ∧
    (gateOpen = true → wordAt b.t1 4 = wordAt a.t1 4)) ∧
  (n = 1 → o = 5 → Among 2 50 (wordAt b.t1 5)) ∧
  (n = 1 → o = 7 → Among 0 1 (wordAt b.t1 7)) ∧
  (n = 2 → o % 4 = 0 → Among 0 9000 (wordAt b.t2 o) ∧ (o % 32 ≠ 0 → wordAt b.t2 (o - 4) < wordAt b.t2 o)) ∧
  (n = 2 → o % 4 = 1 ∨ o % 4 = 2 → Among 0 20000 (wordAt b.t2 o)) ∧
  (n = 2 → o % 4 = 3 → Among 0 12000 (wordAt b.t2 o)) ∧
  (n = 3 → o % 80 < 8 → Among 0 2000 (wordAt b.t3 o) ∧ (o % 80 ≠ 0 → wordAt b.t3 (o - 1) < wordAt b.t3 o)) ∧
  (n = 3 → 8 ≤ o % 80 → o % 80 < 16 →
    Among 0 12000 (wordAt b.t3 o) ∧ (o % 80 ≠ 8 → wordAt b.t3 (o - 1) < wordAt b.t3 o)) ∧
  (n = 3 → 16 ≤ o % 80 → Among 0 2000 (wordAt b.t3 o))

/-- Every check that a COMMIT makes at a word of T4 and T5, read from R150 and R156. -/
def UpperWordPasses (b : Bank) (n o : Nat) : Prop :=
  (n = 4 → o < 4 → Among 1000 20000 (wordAt b.t4 o)) ∧
  (n = 4 → 4 ≤ o → o < 10 → Among 0 2000 (wordAt b.t4 o)) ∧
  (n = 4 → o = 6 → Among (wordAt b.t4 4) (wordAt b.t4 5) (wordAt b.t4 6)) ∧
  (n = 4 → o = 9 → Among (wordAt b.t4 7) (wordAt b.t4 8) (wordAt b.t4 9)) ∧
  (n = 4 → o = 10 → Among 50 1000 (wordAt b.t4 10)) ∧
  (n = 4 → o = 11 → Among 50 1000 (wordAt b.t4 11)) ∧
  (n = 4 → o = 12 → Among 10 200 (wordAt b.t4 12)) ∧
  (n = 4 → o = 13 → Among 1 20 (wordAt b.t4 13)) ∧
  (n = 4 → o = 14 → Among 20 500 (wordAt b.t4 14)) ∧
  (n = 4 → o = 15 → Among 2 32 (wordAt b.t4 15)) ∧
  (n = 4 → o = 16 → Among 2 16 (wordAt b.t4 16)) ∧
  (n = 4 → o = 17 → Among 8000 12000 (wordAt b.t4 17)) ∧
  (n = 4 → o = 18 → 6000 ≤ wordAt b.t4 18 ∧ wordAt b.t4 18 + 500 ≤ wordAt b.t4 17) ∧
  (n = 4 → o = 19 → wordAt b.t4 19 = 0) ∧
  (n = 5 → o = 0 → Among 0 1 (wordAt b.t5 0)) ∧
  (n = 5 → o = 1 → Among 50 1500 (wordAt b.t5 1)) ∧
  (n = 5 → o = 2 → Among 2000 3800 (wordAt b.t5 2)) ∧
  (n = 5 → o = 3 → Among 100 3000 (wordAt b.t5 3)) ∧
  (n = 5 → 4 ≤ o → o % 3 = 1 → Among 0 2000 (wordAt b.t5 o) ∧ (o ≠ 4 → wordAt b.t5 (o - 3) < wordAt b.t5 o)) ∧
  (n = 5 → 4 ≤ o → o % 3 = 2 → Among 0 256 (wordAt b.t5 o)) ∧
  (n = 5 → 4 ≤ o → o % 3 = 0 → Among 1 255 (wordAt b.t5 o))

/-- Every check that a COMMIT makes at a word of table `n`, offset `o`. -/
def WordPasses (b a : Bank) (gateOpen : Bool) (n o : Nat) : Prop :=
  LowerWordPasses b a gateOpen n o ∧ UpperWordPasses b n o

/-- Every word before table `n`, offset `o` in the order of the walk passes its checks (R155). -/
def EarlierWordsPass (b a : Bank) (gateOpen : Bool) (n o : Nat) : Prop :=
  ∀ m q, q < tableSize m → m < n ∨ (m = n ∧ q < o) → WordPasses b a gateOpen m q

/-- The state with one port's counter capture replaced, nothing else changed. -/
def State.mapCapture (s : State) (p : Port) (k : Counters) : State :=
  { s with mgmt := { s.mgmt with captures := s.mgmt.captures.set p k } }

/-- A port after a power-on or RESET-line reset (R175). -/
def PortIsReset (u : PortUnit) : Prop :=
  u.fifo = [] ∧ u.insert = [] ∧ u.waitCount = 0 ∧ u.line = none ∧
    u.counters = ⟨0, 0, 0, 0, 0, 0, 0, 0, 0⟩

/-- Signal Capture after a power-on or RESET-line reset (R38). -/
def CaptureIsReset (s : State) : Prop :=
  s.capture.short = 0 ∧ ∀ g, s.capture.live.get g = { value := 0, age := 255, clamps := 0 }

/-- Cycle Timing after a power-on or RESET-line reset (R21). -/
def TimingIsReset (s : State) : Prop :=
  s.timing.sources.a = .silent ∧ s.timing.sources.b = .silent ∧ s.timing.selected = none ∧ s.timing.baseline = none ∧
    s.timing.holdRequest = false ∧ s.timing.served = 0 ∧ s.timing.skipped = 0 ∧ s.timing.duplicate = 0 ∧
    s.timing.reportPort = .port1

/-- The Control Engine after each reset, but for its current programme (R22, R51, R57, R63, R70, R92, R104). -/
def EngineIsReset (s : State) : Prop :=
  s.engine.computing = none ∧
    (∀ c, s.engine.est.get c =
      { xPrev := 0, seeded := false, vbQ := 0, lastVd := 0, lastTravelLost := false, lastSkyLost := false }) ∧
    (∀ c, s.engine.results.get c = { fSky := 0, fDem := 0, source := .map, mapCurrent := 0, target := 0 }) ∧
    s.engine.odometer = 0 ∧ s.engine.queue = [] ∧ s.engine.sides = ⟨.armed, .armed⟩ ∧
    (∀ d, s.engine.windows.get d = { remaining := 0, scale := 256 }) ∧
    s.engine.previewActive = false ∧ s.engine.previewFull = 0 ∧ s.engine.flushOwed = false ∧
    s.engine.pendingProgramme = none ∧
    s.engine.lookupSpeed = 0 ∧ s.engine.cSky = 0 ∧ s.engine.cBase = 0 ∧ s.engine.fMax = 0

/-- The Drive Unit after each reset (R129): `length` gives the PWM period of each corner, `ended` which of these periods a
measurement has ended. -/
def DriveIsReset (s : State) (length : Corner → Nat) (ended : Corner → Bool) : Prop :=
  s.drive.slots = [] ∧ s.drive.waiting = [] ∧ (∀ c, s.drive.staggered.get c = none) ∧
    ∀ c, s.corner c =
      { state := .off, target := 0, duty := 0, measured := 0, cause := .none, timeouts := 0, outputDuty := 0,
        periodLength := length c, periodEnded := ended c }

/-- The Current Monitor and the Drive Gate after each reset (R147). -/
def MonitorAndGateAreReset (s : State) : Prop :=
  (∀ c, s.monitorOf c = { settle := 32, deviation := 0, stuck := 0, test := none }) ∧
    s.gate = { isOpen := false, cause := .reset }

/-- The Management Unit after a power-on or RESET-line reset, but for its flag word (R191). -/
def MgmtIsReset (s : State) : Prop :=
  s.mgmt.executing = none ∧ s.mgmt.queue = [] ∧ ∀ p, s.mgmt.captures.get p = ⟨0, 0, 0, 0, 0, 0, 0, 0, 0⟩

/-! ### Invariants -/

/-- A bank whose tables have their lengths and whose every word passes its range checks and its relation checks, the gate
taken CLOSED (R149, R150, R156). -/
def Bank.validated (b : Bank) : Prop := b.wf = true ∧ validate b b false = none

/-- The banks: of the right lengths; ACTIVE validated while valid, STAGED validated while a COMMIT is pending, and the bank
of a cycle in computation validated (R148, R154, R157). -/
def TablesInv (s : State) : Prop :=
  s.tables.active.wf = true ∧ s.tables.staged.wf = true ∧
    (s.tables.activeValid = true → s.tables.active.validated) ∧
    (s.tables.commitPending = true → s.tables.staged.validated) ∧
    ∀ y, s.engine.computing = some y → y.bank.validated

/-- While the gate is OPEN, ACTIVE is valid, a source is selected and the latest sample is at or above V_cut (R143). -/
def GateInv (s : State) : Prop :=
  TablesInv s ∧
    (s.gate.isOpen = true →
      s.tables.activeValid = true ∧ s.timing.selected ≠ none ∧ s.tables.active.vCut ≤ s.supply.sample)

/-- The boost arbiter's laws (R115): at most two slots held, by the corners in BOOST; the corners in WAIT on the pending list
once each, and only while both slots are held. -/
def ArbiterLaws (s : State) : Prop :=
  s.drive.slots.Nodup ∧ (∀ c, c ∈ s.drive.slots ↔ ∃ t, (s.corner c).state = .boost t) ∧ s.drive.slots.length ≤ 2 ∧
    s.drive.waiting.Nodup ∧ (∀ c, c ∈ s.drive.waiting ↔ ∃ b, (s.corner c).state = .wait b) ∧
    (s.drive.waiting ≠ [] → s.drive.slots.length = 2)

/-- The boost arbiter's laws (R115), the states the gate allows (R107), and the duty of each state (R109). -/
def DriveInv (s : State) : Prop :=
  ArbiterLaws s ∧
    (s.gate.isOpen = false → ∀ c, (s.corner c).state = .off ∨ (s.corner c).state = .fault) ∧
    ∀ c, (s.corner c).duty = dutyOf s c (s.corner c).state (s.corner c).target ∧ (s.corner c).outputDuty ≤ 980 ∧
      ((s.corner c).state = .off ∨ (s.corner c).state = .fault → (s.corner c).outputDuty = 0)

/-- The four PWM periods have one length, and not all four have ended: the last to end starts the next (R108). -/
def PeriodInv (s : State) : Prop :=
  (∀ c d, (s.corner c).periodLength = (s.corner d).periodLength) ∧ ∃ c, (s.corner c).periodEnded = false

/-- Every driven corner's target lies in the range of its axle in ACTIVE (R127). -/
def TargetInv (s : State) : Prop :=
  GateInv s ∧ DriveInv s ∧
    ∀ c, (s.corner c).state.isDriven = true →
      s.tables.active.iMin (axleOf c) ≤ (s.corner c).target ∧ (s.corner c).target ≤ s.tables.active.iMax (axleOf c)

/-- The bounds of the queues (R169, R170, R172, R177), and a free transmitter only beside empty sources (R171). -/
def QueueInv (s : State) : Prop :=
  (∀ p, (s.port p).fifo.length ≤ 8 ∧ (s.port p).insert.length ≤ 4 ∧ (s.port p).waitCount ≤ 3 ∧
    ((s.port p).insert = [] → (s.port p).waitCount = 0) ∧
    ((s.port p).line = none → (s.port p).fifo = [] ∧ (s.port p).insert = [])) ∧
    s.mgmt.queue.length + s.mgmt.executing.isSome.toNat ≤ 4

/-- RECEIVED is the sum of the five outcome counters, modulo 2^32 (R167). -/
def Counters.addUp (k : Counters) : Prop := k.received = k.accepted + k.consumed + k.check + k.format + k.full

/-- The sum holds among the counters of each port and among its captured values (R167, R185). -/
def CountersInv (s : State) : Prop := ∀ p, (s.port p).counters.addUp ∧ (s.mgmt.captures.get p).addUp

/-- The selected source is the function of the two source states that R5 gives. -/
def SelectionInv (s : State) : Prop := s.timing.selected = selectionOf s.timing.sources

/-- No source has an ident while ACTIVE is not valid, and B has none while its ident is 0: it is then SILENT (R1). -/
def SourcesInv (s : State) : Prop :=
  (s.tables.activeValid = false → s.timing.sources = ⟨.silent, .silent⟩) ∧
    (s.tables.active.identB = 0 → s.timing.sources.b = .silent)

/-- A request in execution is one of the three that can wait, and its owner's waiting state stands exactly while it does;
a monitor test runs at one corner at most, in HOLD (R136, R138, R178). -/
def RequestInv (s : State) : Prop :=
  (∀ c, (s.monitorOf c).test.isSome = true → (s.corner c).state = .hold) ∧
    match s.mgmt.executing with
    | none => s.tables.commitPending = false ∧ s.engine.pendingProgramme = none ∧ NoTest s
    | some r =>
      (r.command = codeCommit ∧ s.tables.commitPending = true ∧ s.engine.pendingProgramme = none ∧ NoTest s) ∨
      (r.command = codeSetProgramme ∧ s.tables.commitPending = false ∧ s.engine.pendingProgramme.isSome = true ∧
        NoTest s) ∨
      (r.command = codeMonitorTest ∧ s.tables.commitPending = false ∧ s.engine.pendingProgramme = none ∧
        ∃ c, ∀ d, (s.monitorOf d).test.isSome = true ↔ d = c)

/-- A value lies in its signal's range (R23). -/
def InRange (g : Signal) (v : Int) : Prop :=
  match g with
  | .travelFL | .travelFR | .travelRL | .travelRR => -1200 ≤ v ∧ v ≤ 1200
  | .accelFL | .accelFR | .accelRL | .accelRR => -30000 ≤ v ∧ v ≤ 30000
  | .speed => -2000 ≤ v ∧ v ≤ 9000

/-- The ranges of the live store, of a snapshot, of the estimation records, of the preview queue and of the rear windows
(R23, R39, R76, R81). -/
def EngineInv (s : State) : Prop :=
  TablesInv s ∧
    (∀ g, InRange g (s.capture.live.get g).value ∧ (s.capture.live.get g).age ≤ 255 ∧
      (s.capture.live.get g).clamps ≤ 65535) ∧
    (∀ y, s.engine.computing = some y → ∀ g, InRange g (y.snapshot.get g).value) ∧
    (∀ c, InRange (travelOf c) (s.engine.est.get c).xPrev ∧
      -256000 ≤ (s.engine.est.get c).vbQ ∧ (s.engine.est.get c).vbQ ≤ 256000 ∧
      -2000 ≤ (s.engine.est.get c).lastVd ∧ (s.engine.est.get c).lastVd ≤ 2000) ∧
    s.engine.queue.length ≤ 16 ∧ (∀ p ∈ s.engine.queue, 50 ≤ p.peak ∧ p.peak ≤ 2000) ∧
    ∀ d, (s.engine.windows.get d).remaining ≤ 255 ∧ (s.engine.windows.get d).scale ≤ 256

end Sys2Proof.Machine

section

open Sys2Proof Sys2Proof.Machine

/-! ### Steps and resets -/

/-- A step takes the command at the front of the queue and executes it on the state with the queue's rest. With nothing
in the queue of commands the part idles (the model's choice, log entry 2). -/
def Obligations.StepRunsTheFrontCommand : Prop :=
  (∀ (i : Instr) (rest : List Instr) (s : State), s.pending = i :: rest → step s = exec i { s with pending := rest }) ∧
  (∀ s : State, s.pending = [] → step s = .next s)

/-- Every well-formed command answers a next state; an ill-formed one, a supply sample above full scale, is stopped by
name (the model's choice, log entry 13). While a reset is in progress no event but a reset or its end changes
anything: the ports neither receive nor transmit (R175), and the model lets no other event act (log entry 5). A
request's event acts only on the oldest queued request, of its own command, UNKNOWN_COMMAND on one of none of the
thirteen, with none in execution; otherwise nothing changes (R178; log entry 1). -/
def Obligations.EventsThatDoNotOccurChangeNothing : Prop :=
  (∀ (i : Instr) (s : State),
     (i.wellFormed = true → ∃ t, exec i s = .next t) ∧ (i.wellFormed = false → exec i s = .fault .illFormed)) ∧
  (∀ (i : Instr) (s : State), s.resetInProgress = true → i.wellFormed = true →
     i ≠ .powerOnReset → i ≠ .resetLineReset → (∀ straps, i ≠ .resetEnd straps) → exec i s = .next s) ∧
  (∀ (i : Instr) (code : BitVec 7) (s : State),
     (i, code) ∈ [(Instr.nop, codeNop), (.load, codeLoad), (.readTable, codeReadTable), (.commit, codeCommit),
       (.discard, codeDiscard), (.setProgramme, codeSetProgramme), (.enableDrive, codeEnableDrive),
       (.disableDrive, codeDisableDrive), (.monitorTest, codeMonitorTest), (.clearFaults, codeClearFaults),
       (.clearFlags, codeClearFlags), (.readState, codeReadState), (.resetControl, codeResetControl)] →
     s.mgmt.executing ≠ none ∨ s.mgmt.queue = [] ∨ (∃ r rest, s.mgmt.queue = r :: rest ∧ r.command ≠ code) →
     exec i s = .next s) ∧
  (∀ s : State,
     s.mgmt.executing ≠ none ∨ s.mgmt.queue = [] ∨
       (∃ r rest, s.mgmt.queue = r :: rest ∧ r.command.toNat ≤ 12) →
     exec .unknownCommand s = .next s)

/-- POWER_ON_RESET: every block takes the value of its reset table, both banks are cleared, POWER_ON alone is set. The
node address stays until the end of the reset (the model's choice, log entry 5). RESET_LINE_RESET: as a power-on
reset, but both banks and ACTIVE-valid are kept, commit-pending is cleared, POWER_ON is kept and every other flag is
clear. Each corner's period length reads 1000 from the beginning of either reset to its end, where RESET_END starts a
period at the length in force: that value, also at a RESET-line reset that keeps ACTIVE valid, is the model's own (log
entries 4 and 5); R108 gives 1000 only while ACTIVE is not valid, and R129 names no period. -/
def Obligations.ResetsSetEveryBlock : Prop :=
  (∀ s : State, ∃ t, exec .powerOnReset s = .next t ∧
     t.pending = s.pending ∧ t.resetInProgress = true ∧
     (∀ p, PortIsReset (t.port p)) ∧ t.link.nodeAddress = s.link.nodeAddress ∧
     CaptureIsReset t ∧ TimingIsReset t ∧ EngineIsReset t ∧ t.engine.programme = .balanced ∧
     t.tables = { active := Bank.zero, staged := Bank.zero, activeValid := false, commitPending := false } ∧
     DriveIsReset t (fun _ => 1000) (fun _ => false) ∧ MonitorAndGateAreReset t ∧ t.supply = { sample := 0, low := false } ∧
     MgmtIsReset t ∧ t.mgmt.flags = 1#16) ∧
  (∀ s : State, ∃ t, exec .resetLineReset s = .next t ∧
     t.pending = s.pending ∧ t.resetInProgress = true ∧
     (∀ p, PortIsReset (t.port p)) ∧ t.link.nodeAddress = s.link.nodeAddress ∧
     CaptureIsReset t ∧ TimingIsReset t ∧ EngineIsReset t ∧ t.engine.programme = .balanced ∧
     t.tables = { s.tables with commitPending := false } ∧
     DriveIsReset t (fun _ => 1000) (fun _ => false) ∧ MonitorAndGateAreReset t ∧ t.supply = { sample := 0, low := false } ∧
     MgmtIsReset t ∧ (∀ f : Flag, f.isSet t.mgmt.flags = (f.isSet s.mgmt.flags && decide (f = .powerOn))))

/-- RESET_END: the straps become the node address, the four PWM periods start at the length in force, nothing else
changes; with no reset in progress nothing changes (the model's choice, log entry 1). State.reset: every block at its
power-on value, no reset in progress, POWER_ON alone set, no command waiting; the node address 0 and the end of the
reset are the model's choices (log entry 4). -/
def Obligations.ResetEndAndResetState : Prop :=
  (∀ (straps : BitVec 6) (s : State),
     (s.resetInProgress = true → ∃ t, exec (.resetEnd straps) s = .next t ∧
       t.link.nodeAddress = straps ∧ t.resetInProgress = false ∧
       (∀ c, t.corner c =
         { s.corner c with
           outputDuty := (s.corner c).duty
           periodLength := if s.tables.activeValid then s.tables.active.pwmPeriod else 1000
           periodEnded := false }) ∧
       { t with resetInProgress := true, link := s.link, drive := s.drive } = s ∧
       t.link.ports = s.link.ports ∧ { t.drive with corners := s.drive.corners } = s.drive) ∧
     (s.resetInProgress = false → exec (.resetEnd straps) s = .next s)) ∧
  (State.reset.pending = [] ∧ State.reset.resetInProgress = false ∧ (∀ p, PortIsReset (State.reset.port p)) ∧
     State.reset.link.nodeAddress = 0 ∧ CaptureIsReset State.reset ∧ TimingIsReset State.reset ∧
     EngineIsReset State.reset ∧ State.reset.engine.programme = .balanced ∧
     State.reset.tables = { active := Bank.zero, staged := Bank.zero, activeValid := false, commitPending := false } ∧
     DriveIsReset State.reset (fun _ => 1000) (fun _ => false) ∧ MonitorAndGateAreReset State.reset ∧
     State.reset.supply = { sample := 0, low := false } ∧ MgmtIsReset State.reset ∧ State.reset.mgmt.flags = 1#16)

/-! ### The link -/

/-- RECEPTION_COMPLETION counts RECEIVED and exactly one outcome, judged by the first condition of R167 that applies, on
the receiving port, and leaves the other port's reception counters as they were. -/
def Obligations.ReceptionCountsOneOutcome : Prop :=
  ∀ (p : Port) (ws : List Word) (d w o : Bool) (s : State), s.resetInProgress = false →
    ∃ t, exec (.receptionCompletion p ws d w o) s = .next t ∧
      (let k := (s.port p).counters
       let n := (t.port p).counters
       let good := passesCheck ws d w
       let formed := wellFormatted ws
       let mine := decide (headerKind (frameHeader ws) = 2#3) &&
         decide (headerIdent (frameHeader ws) = s.link.nodeAddress.toNat)
       let room := decide ((s.port (opposite p)).fifo.length < 8)
       n.received = k.received + 1 ∧
       n.check = (if good then k.check else k.check + 1) ∧
       n.format = (if good && !formed then k.format + 1 else k.format) ∧
       n.consumed = (if good && formed && mine then k.consumed + 1 else k.consumed) ∧
       n.full = (if good && formed && !mine && !room then k.full + 1 else k.full) ∧
       n.accepted = (if good && formed && !mine && room then k.accepted + 1 else k.accepted)) ∧
      (let k := (s.port (opposite p)).counters
       let n := (t.port (opposite p)).counters
       n.received = k.received ∧ n.check = k.check ∧ n.format = k.format ∧ n.consumed = k.consumed ∧
       n.full = k.full ∧ n.accepted = k.accepted)

/-- A frame dropped for its check, or for its length, sets CHECK_ERRORS and changes nothing but its counters. A good
frame that is no SAMPLE, no MARK and no REQUEST of this node is only forwarded, whole, to the opposite port: it joins
the FIFO's tail with room for it, and starts on a free transmitter; with 8 frames there it is dropped with
FULL_DROPS. A good frame of any kind, SAMPLE and MARK with the rest, that is no REQUEST of this node joins the FIFO's
tail behind a transmitter that is sending, or is dropped with FULL_DROPS (R167, R168). -/
def Obligations.FramesAreDroppedOrForwarded : Prop :=
  (∀ (p : Port) (ws : List Word) (d w o : Bool) (s : State), s.resetInProgress = false →
     (passesCheck ws d w = false →
       exec (.receptionCompletion p ws d w o) s = .next (setFlag .checkErrors (recount s p
         { (s.port p).counters with
           received := (s.port p).counters.received + 1, check := (s.port p).counters.check + 1 }))) ∧
     (passesCheck ws d w = true → wellFormatted ws = false →
       exec (.receptionCompletion p ws d w o) s = .next (setFlag .checkErrors (recount s p
         { (s.port p).counters with
           received := (s.port p).counters.received + 1, format := (s.port p).counters.format + 1 })))) ∧
  (∀ (p : Port) (ws : List Word) (d w o : Bool) (s : State), s.resetInProgress = false →
     passesCheck ws d w = true → wellFormatted ws = true →
     headerKind (frameHeader ws) ≠ 0#3 → headerKind (frameHeader ws) ≠ 1#3 →
     (headerKind (frameHeader ws) = 2#3 → headerIdent (frameHeader ws) ≠ s.link.nodeAddress.toNat) →
     (8 ≤ (s.port (opposite p)).fifo.length →
       exec (.receptionCompletion p ws d w o) s = .next (setFlag .fullDrops (recount s p
         { (s.port p).counters with
           received := (s.port p).counters.received + 1, full := (s.port p).counters.full + 1 }))) ∧
     ((s.port (opposite p)).fifo.length < 8 →
       exec (.receptionCompletion p ws d w o) s = .next
         ((recount s p
           { (s.port p).counters with
             received := (s.port p).counters.received + 1, accepted := (s.port p).counters.accepted + 1 }).setPort
           (opposite p)
           ({ s.port (opposite p) with fifo := (s.port (opposite p)).fifo ++ [ws] }).start))) ∧
  (∀ (p : Port) (ws : List Word) (d w o : Bool) (s : State), s.resetInProgress = false →
     passesCheck ws d w = true → wellFormatted ws = true →
     (headerKind (frameHeader ws) = 2#3 → headerIdent (frameHeader ws) ≠ s.link.nodeAddress.toNat) →
     (s.port (opposite p)).line ≠ none → ∃ t, exec (.receptionCompletion p ws d w o) s = .next t ∧
       (t.port (opposite p)).line = (s.port (opposite p)).line ∧
       ((s.port (opposite p)).fifo.length < 8 → (t.port (opposite p)).fifo = (s.port (opposite p)).fifo ++ [ws]) ∧
       (8 ≤ (s.port (opposite p)).fifo.length → (t.port (opposite p)).fifo = (s.port (opposite p)).fifo ∧
         Flag.fullDrops.isSet t.mgmt.flags = true))

/-- TRANSMIT_COMPLETION counts the frame sent as forwarded or inserted and frees the transmitter, which starts the next
frame it has; nothing else changes. With no frame on the line nothing changes (log entry 1). What a free transmitter
starts, and what becomes of the wait count (R171, R172). A busy one starts nothing. -/
def Obligations.TransmittersCompleteAndStartByTheWaitCount : Prop :=
  (∀ (p : Port) (s : State), s.resetInProgress = false →
     ((s.port p).line = none → exec (.transmitCompletion p) s = .next s) ∧
     (∀ x, (s.port p).line = some x → x.inserted = false →
       exec (.transmitCompletion p) s = .next (s.setPort p
         ({ s.port p with
           line := none
           counters :=
             { (s.port p).counters with sentForwarded := (s.port p).counters.sentForwarded + 1 } }).start)) ∧
     (∀ x, (s.port p).line = some x → x.inserted = true →
       exec (.transmitCompletion p) s = .next (s.setPort p
         ({ s.port p with
           line := none
           counters := { (s.port p).counters with sentInserted := (s.port p).counters.sentInserted + 1 } }).start))) ∧
  (∀ u : PortUnit,
     (u.line ≠ none → u.start = u) ∧
     (u.line = none →
       (u.fifo = [] → u.insert = [] → u.start = u) ∧
       (∀ f fs, u.fifo = f :: fs → u.insert = [] → u.start = { u with fifo := fs, line := some ⟨f, false⟩ }) ∧
       (∀ g gs, u.fifo = [] → u.insert = g :: gs →
         u.start = { u with insert := gs, line := some ⟨g, true⟩, waitCount := 0 }) ∧
       (∀ f fs g gs, u.fifo = f :: fs → u.insert = g :: gs →
         (3 ≤ u.waitCount → u.start = { u with insert := gs, line := some ⟨g, true⟩, waitCount := 0 }) ∧
         (u.waitCount < 3 →
           u.start = { u with fifo := fs, line := some ⟨f, false⟩, waitCount := u.waitCount + 1 }))))

/-- Admission to an insert queue: a REPLY below 4 frames, a REPORT below 2, joins the tail and starts on a free
transmitter; otherwise the frame is dropped, INSERT_LOST counted and flagged (R170). A request that ends is answered
on its arrival port with one REPLY of its tag, result and data, admitted as R170 gives; quiet and OK, it gets none
(R180). -/
def Obligations.RepliesAndReportsAreAdmittedByKind : Prop :=
  (∀ (p : Port) (f : Frame) (s : State), ∀ limit ∈ [4, 2],
     ((s.port p).insert.length < limit →
       offerFrame limit p f s = s.setPort p ({ s.port p with insert := (s.port p).insert ++ [f] }).start) ∧
     (limit ≤ (s.port p).insert.length →
       offerFrame limit p f s = setFlag .insertLost (recount s p
         { (s.port p).counters with insertLost := (s.port p).counters.insertLost + 1 }))) ∧
  (∀ (r : Request) (x : Result) (data : List Word) (s : State),
     (r.quiet = true → x = .ok → answer r x data s = s) ∧
     (r.quiet = false ∨ x ≠ .ok →
       answer r x data s = offerFrame 4 r.port (replyFrame s.link.nodeAddress r.tag x data) s))

/-- A REPLY of at most seven data words: kind 3, its length 1 plus the data words, ident the node address, word 0 the tag
and the result's code, then the data, and a check word with which it passes its check (R180, R192). Header words and
request words decode to the fields they were made of (R192). The check register takes each word most significant bit
first by x^16 + x^12 + x^5 + 1: one bit shifts it left and, when the bit leaving differs from the bit entering, adds
4129; the check word is that register, from all ones, over the words in frame order. A reception passes its check
exactly when its end delimiter was seen, no bits were left over, and it is two words or more of which the last is the
check word of those before it; so a frame the part seals passes (R164, R165). The header is the first word, the
payload all words between it and the check word, and a frame is well formatted when its length field is at most 8 and
counts its payload (R163, R167). The command, corner, programme, drive state, fault cause, close cause and source
codes and the order of the flag bits are those of R192. -/
def Obligations.FramesAreBuiltAndSealed : Prop :=
  (∀ (node : BitVec 6) (tag : BitVec 8) (x : Result) (data : List Word), data.length ≤ 7 →
     let f := replyFrame node tag x data
     headerKind (frameHeader f) = 3#3 ∧ headerLength (frameHeader f) = 1 + data.length ∧
       headerIdent (frameHeader f) = node.toNat ∧ passesCheck f true true = true ∧ wellFormatted f = true ∧
       ∃ w, framePayload f = w :: data ∧ w.extractLsb' 8 8 = tag ∧ w.extractLsb' 0 4 = 0#4 ∧
         w.extractLsb' 4 4 = (match x with
           | .ok => 0#4
           | .busy => 1#4
           | .invalid => 2#4
           | .refused => 3#4
           | .rejected => 4#4
           | .aborted => 5#4)) ∧
  ((∀ (k : BitVec 3) (n : BitVec 4) (i : BitVec 9),
     headerKind (headerWord k n i) = k ∧ headerLength (headerWord k n i) = n.toNat ∧
       headerIdent (headerWord k n i) = i.toNat) ∧
   (∀ w : Word, headerWord (headerKind w) (BitVec.ofNat 4 (headerLength w)) (BitVec.ofNat 9 (headerIdent w)) = w) ∧
   (∀ (t : BitVec 8) (q : Bool) (c : BitVec 7),
     requestTag (requestWord t q c) = t ∧ requestQuiet (requestWord t q c) = q ∧
       requestCommand (requestWord t q c) = c)) ∧
  ((∀ (reg : Word) (b : Bool),
     crcBit reg b = if reg.getLsbD 15 = b then reg <<< 1 else (reg <<< 1) ^^^ 4129#16) ∧
   (∀ reg w : Word, crcWord reg w =
     ((List.range 16).map fun i => w.getLsbD (15 - i)).foldl crcBit reg) ∧
   checkWord [] = 65535#16 ∧
   (∀ (ws : List Word) (w : Word), checkWord (ws ++ [w]) = crcWord (checkWord ws) w) ∧
   (∀ ws : List Word, ws ≠ [] → passesCheck (sealFrame ws) true true = true) ∧
   (∀ (ws : List Word) (d whole : Bool), passesCheck ws d whole = true ↔
     d = true ∧ whole = true ∧ ∃ front, front ≠ [] ∧ ws = front ++ [checkWord front])) ∧
  ((∀ (h c : Word) (payload : List Word),
     frameHeader (h :: payload ++ [c]) = h ∧ framePayload (h :: payload ++ [c]) = payload ∧
       (wellFormatted (h :: payload ++ [c]) = true ↔ headerLength h ≤ 8 ∧ payload.length = headerLength h)) ∧
   (∀ (k : BitVec 3) (n : BitVec 4) (i : BitVec 9),
     (headerWord k n i).toNat = k.toNat * 8192 + n.toNat * 512 + i.toNat) ∧
   (∀ (t : BitVec 8) (q : Bool) (c : BitVec 7),
     (requestWord t q c).toNat = t.toNat * 256 + q.toNat * 128 + c.toNat)) ∧
  ([codeNop, codeLoad, codeReadTable, codeCommit, codeDiscard, codeSetProgramme, codeEnableDrive, codeDisableDrive,
     codeMonitorTest, codeClearFaults, codeClearFlags, codeReadState, codeResetControl, codeAbort] =
     (List.range 14).map (BitVec.ofNat 7) ∧
   corners.map cornerCode = [0, 1, 2, 3] ∧
   [Programme.touring, .balanced, .firm].map Programme.code = [0, 1, 2] ∧
   (∀ base timeout, [DriveState.off, .hold, .wait base, .boost timeout, .fault].map DriveState.code = [0, 1, 2, 3, 4]) ∧
   [FaultCause.none, .openCoil, .deviation, .stuckOn].map FaultCause.code = [0, 1, 2, 3] ∧
   [CloseCause.command, .supplyCut, .marksSilent, .reset].map CloseCause.code = [0, 1, 2, 3] ∧
   [none, some Source.a, some Source.b].map selectedCode = [0, 1, 2] ∧
   ∀ w : Word, [Flag.powerOn, .checkErrors, .fullDrops, .insertLost, .markGap, .markSkipped, .sourceSwitch, .marksSilent,
     .signalStale, .signalClamped, .previewFull, .boostTimeout, .cornerFault, .supplyLow, .supplyCut,
     .monitorFailed].map (fun f => f.isSet w) = (List.range 16).map w.getLsbD)

/-! ### Signal Capture -/

/-- The row of signal n is UNMAPPED while ACTIVE is not valid (R24); otherwise it is MAPPED exactly when bit 15 of word
4n of T0 is 1, with its ident in bits 8..0, its word index in word 4n + 1, and its gain and offset the signed words
4n + 2 and 4n + 3 (R194). A SAMPLE frame read serves every MAPPED row of its ident: the word at the row's index,
scaled by gain / 256 to nearest, halves away from zero, plus the offset, clamped to the signal's range (travels
−1200..1200, accelerations −30000..30000, speed −2000..9000), becomes the live value at age 0; a clamp is counted and
flagged; a row beyond the frame's words is counted in SHORT (R23, R26, R27, R28). The frame is counted and placed in
the opposite port's forward FIFO, or dropped with FULL_DROPS, and read either way (R167, R168). -/
def Obligations.SampleFramesWriteTheLiveStore : Prop :=
  (∀ v : Int,
    (∀ g ∈ [Signal.travelFL, .travelFR, .travelRL, .travelRR],
      clampSignal g v = if v < -1200 then -1200 else if 1200 < v then 1200 else v) ∧
    (∀ g ∈ [Signal.accelFL, .accelFR, .accelRL, .accelRR],
      clampSignal g v = if v < -30000 then -30000 else if 30000 < v then 30000 else v) ∧
    clampSignal .speed v = if v < -2000 then -2000 else if 9000 < v then 9000 else v) ∧
  (∀ (m : Tables) (g : Signal) (n : Nat),
    (g, n) ∈ [(Signal.travelFL, 0), (.travelFR, 1), (.travelRL, 2), (.travelRR, 3), (.accelFL, 4), (.accelFR, 5),
      (.accelRL, 6), (.accelRR, 7), (.speed, 8)] →
    let word := fun i => m.active.t0.getD (4 * n + i) 0#16
    g.index = n ∧ (m.activeValid = false → m.row g = .unmapped) ∧ (m.activeValid = true → m.row g = m.active.row g) ∧
    ((word 0).getLsbD 15 = false → m.active.row g = .unmapped) ∧
    ((word 0).getLsbD 15 = true →
      m.active.row g =
        .mapped ((word 0).extractLsb' 0 9).toNat (word 1).toNat (word 2).toInt (word 3).toInt)) ∧
  ∀ (p : Port) (ws : List Word) (d w o : Bool) (s : State), s.resetInProgress = false →
    passesCheck ws d w = true → wellFormatted ws = true → headerKind (frameHeader ws) = 0#3 →
    ∃ t, exec (.receptionCompletion p ws d w o) s = .next t ∧
      (∀ g, t.capture.live.get g =
        match s.tables.row g with
        | .unmapped => s.capture.live.get g
        | .mapped ident index gain offset =>
          if ident = headerIdent (frameHeader ws) then
            match (framePayload ws)[index]? with
            | none => s.capture.live.get g
            | some x =>
              { value := clampSignal g (roundAway (x.toInt * gain) 256 + offset)
                age := 0
                clamps :=
                  if clampSignal g (roundAway (x.toInt * gain) 256 + offset) = roundAway (x.toInt * gain) 256 + offset then
                    (s.capture.live.get g).clamps
                  else min 65535 ((s.capture.live.get g).clamps + 1) }
          else s.capture.live.get g) ∧
      t.capture.short = s.capture.short + BitVec.ofNat 32 ((signals.filter fun g =>
        match s.tables.row g with
        | .unmapped => false
        | .mapped ident index _ _ =>
          ident == headerIdent (frameHeader ws) && decide ((framePayload ws).length ≤ index)).length) ∧
      t.link = linkAfter s p ws ∧
      t.timing = s.timing ∧ t.engine = s.engine ∧ t.tables = s.tables ∧ t.drive = s.drive ∧ t.monitor = s.monitor ∧
      t.supply = s.supply ∧ t.gate = s.gate ∧ { t.mgmt with flags := s.mgmt.flags } = s.mgmt ∧
      OtherFlagsKept s.mgmt.flags t.mgmt.flags [.signalClamped, .fullDrops] ∧
      Flag.fullDrops.isSet t.mgmt.flags = (Flag.fullDrops.isSet s.mgmt.flags || !hasRoom s p) ∧
      (Flag.signalClamped.isSet t.mgmt.flags = (Flag.signalClamped.isSet s.mgmt.flags ||
        signals.any fun g =>
          match s.tables.row g with
          | .unmapped => false
          | .mapped ident index gain offset =>
            ident == headerIdent (frameHeader ws) &&
              match (framePayload ws)[index]? with
              | none => false
              | some x =>
                decide (clampSignal g (roundAway (x.toInt * gain) 256 + offset) ≠
                  roundAway (x.toInt * gain) 256 + offset)))

/-- The rounding to nearest, halves away from zero, of a quotient by a positive number: the result is within half a unit
of the exact quotient, and at an exact half it has the larger magnitude (00_scope.md 5.4). The interpolation step:
y_lo + floor(((y_hi − y_lo) × frac + 128) / 256); y_lo at fraction 0, y_hi at 256, and between the two for every
fraction of 0..256 (R62). The feed-forward duty: I × R / V rounded half up, clamped to 0..980; 0 at a current of 0
(R109). -/
def Obligations.RoundingInterpolationAndDuty : Prop :=
  ((∀ (n : Int) (d : Nat), 0 < d →
      2 * (n - roundAway n d * d).natAbs ≤ d ∧
        (2 * (n - roundAway n d * d).natAbs = d → n.natAbs < (roundAway n d).natAbs * d) ∧
        (∀ m : Nat, (2 * (m - (roundHalfUp m d : Int) * d) ≤ d) ∧ (-(d : Int) ≤ 2 * (m - (roundHalfUp m d : Int) * d)) ∧
          2 * (m - (roundHalfUp m d : Int) * d) ≠ d)) ∧
   (∀ lo hi frac : Nat, frac ≤ 256 →
      ((interpolate lo hi frac : Nat) : Int) = lo + (((hi : Int) - lo) * frac + 128) / 256 ∧
        interpolate lo hi 0 = lo ∧ interpolate lo hi 256 = hi ∧
        min lo hi ≤ interpolate lo hi frac ∧ interpolate lo hi frac ≤ max lo hi)) ∧
  (∀ (s : State) (c : Corner) (i : Nat), 0 < s.supply.sample →
     let n := i * s.tables.active.resistance c
     feedForward s c i ≤ 980 ∧ (i = 0 → feedForward s c i = 0) ∧
     (feedForward s c i < 980 →
       (2 * feedForward s c i : Int) * s.supply.sample ≤ 2 * n + s.supply.sample ∧
         (2 * n : Int) + s.supply.sample < (2 * feedForward s c i + 2) * s.supply.sample) ∧
     (feedForward s c i = 980 → 1959 * s.supply.sample ≤ 2 * n))

/-! ### Cycle Timing -/

/-- A MARK frame belongs to A when its ident equals mark ident A, to B when mark ident B is not 0 and equals it, and to
neither while ACTIVE is not valid; one that belongs to neither is only forwarded (R1). A mark of the selected source,
ALIVE, at an IDLE engine, is judged against the baseline by d (R9); served, it moves the baseline, counts, names the
report port and starts a cycle with its k on the ACTIVE bank, the current programme and the snapshot, whose ages then
grow by k (R10, R13, R29, R30); a duplicate is only counted. For this, no COMMIT and no programme is pending. A mark of
the selected source that finds the engine COMPUTING is skipped: counted, flagged, its source's timer restarted, the
baseline and everything else of Cycle Timing, Signal Capture and the engine kept (R8). A served mark first performs the
swap of a pending COMMIT, or applies a pending programme: the cycle it starts is a hold cycle on the new bank or
programme, and the request in execution ends (R10, R54, R159). With a programme pending, baseline, counts, report port,
k and MARK_GAP are those of R9 and R10 as without, and the SET_PROGRAMME is answered OK, before or after the frame is
placed as the operand readFirst gives (R54, R180; the model's choice of the order, log entry 7). A mark of an ALIVE
source that is not the selected one, or without payload, only restarts its timer; one that makes a SILENT source ALIVE
moves the selection to the source R5 gives, with the effects of R6 (R2, R5, R6). Every one of these frames with no
COMMIT pending is counted and placed in the opposite port's forward FIFO, or dropped with FULL_DROPS (R167, R168). -/
def Obligations.MarksAreJudgedOrSkipped : Prop :=
  (∀ (m : Tables) (ident : Nat),
     (m.activeValid = false → markSource m ident = none) ∧
     (m.activeValid = true →
       let a := (m.active.t1.getD 3 0#16).toNat
       let b := (m.active.t1.getD 4 0#16).toNat
       (ident = a → markSource m ident = some .a) ∧
       (ident ≠ a → b ≠ 0 → ident = b → markSource m ident = some .b) ∧
       (ident ≠ a → b = 0 ∨ ident ≠ b → markSource m ident = none))) ∧
  (∀ (p : Port) (ws : List Word) (d w o : Bool) (s : State), s.resetInProgress = false →
     passesCheck ws d w = true → wellFormatted ws = true → headerKind (frameHeader ws) = 1#3 →
     markSource s.tables (headerIdent (frameHeader ws)) = none →
     ∃ t, exec (.receptionCompletion p ws d w o) s = .next t ∧ t.timing = s.timing ∧
       OnlyTimingAndLink s t p ws []) ∧
  (∀ (p : Port) (ws : List Word) (d w o : Bool) (s : State) (src : Source) (timeout : Nat) (seq : Word)
     (more : List Word),
     s.resetInProgress = false → passesCheck ws d w = true → wellFormatted ws = true →
     headerKind (frameHeader ws) = 1#3 → markSource s.tables (headerIdent (frameHeader ws)) = some src →
     framePayload ws = seq :: more → s.timing.sources.get src = .alive timeout → s.timing.selected = some src →
     s.engine.computing = none → s.tables.commitPending = false → s.engine.pendingProgramme = none →
     let served := fun (k : Nat) (gap : Bool) => ∃ t, exec (.receptionCompletion p ws d w o) s = .next t ∧
       MarkServed s t p ws src seq k gap false
     (s.timing.baseline = none → served 1 false) ∧
     ∀ base, s.timing.baseline = some base →
       ((seq - base).toNat = 0 → ∃ t, exec (.receptionCompletion p ws d w o) s = .next t ∧
         t.timing = { s.timing with
           sources := s.timing.sources.set src (.alive s.tables.active.silenceTimeout)
           duplicate := s.timing.duplicate + 1 } ∧
         OnlyTimingAndLink s t p ws []) ∧
       ((seq - base).toNat = 1 → served 1 false) ∧
       (2 ≤ (seq - base).toNat → (seq - base).toNat ≤ 4 → served (seq - base).toNat true) ∧
       (5 ≤ (seq - base).toNat → (seq - base).toNat ≤ 32767 → served 4 true) ∧
       (32768 ≤ (seq - base).toNat → served 1 true)) ∧
  (∀ (p : Port) (ws : List Word) (d w o : Bool) (s : State) (src : Source) (timeout : Nat) (seq : Word)
     (more : List Word) (y : Cycle),
     s.resetInProgress = false → passesCheck ws d w = true → wellFormatted ws = true →
     headerKind (frameHeader ws) = 1#3 → markSource s.tables (headerIdent (frameHeader ws)) = some src →
     framePayload ws = seq :: more → s.timing.sources.get src = .alive timeout → s.timing.selected = some src →
     s.engine.computing = some y →
     ∃ t, exec (.receptionCompletion p ws d w o) s = .next t ∧
       t.timing = { s.timing with
         sources := s.timing.sources.set src (.alive s.tables.active.silenceTimeout)
         skipped := s.timing.skipped + 1 } ∧
       Flag.markSkipped.isSet t.mgmt.flags = true ∧ OnlyTimingAndLink s t p ws [.markSkipped]) ∧
  (∀ (p : Port) (ws : List Word) (d w o : Bool) (s : State) (src : Source),
     s.resetInProgress = false → passesCheck ws d w = true → wellFormatted ws = true →
     headerKind (frameHeader ws) = 1#3 → markSource s.tables (headerIdent (frameHeader ws)) = some src →
     let restarted := s.timing.sources.set src (.alive s.tables.active.silenceTimeout)
     (∀ timeout seq more, s.timing.sources.get src = .alive timeout → s.timing.selected = some src →
       framePayload ws = seq :: more → s.timing.baseline ≠ some seq → s.engine.computing = none →
       (s.tables.commitPending = true → ∃ t y, exec (.receptionCompletion p ws d w o) s = .next t ∧
         t.engine.computing = some y ∧ y.bank = s.tables.staged ∧ y.hold = true ∧ t.mgmt.executing = none ∧
         t.tables =
           { active := s.tables.staged, staged := s.tables.staged, activeValid := true, commitPending := false }) ∧
       (∀ g, s.tables.commitPending = false → s.engine.pendingProgramme = some g →
         ∃ t k gap, exec (.receptionCompletion p ws d w o) s = .next t ∧ ServedBy s.timing.baseline seq k gap ∧
           CycleServed (programmeApplied g s) t p src seq k gap false [.insertLost] ∧
           ∀ r, s.mgmt.executing = some r → t.link = linkAnswered s p ws o r)) ∧
     (∀ timeout, s.timing.sources.get src = .alive timeout →
       s.timing.selected ≠ some src ∨ framePayload ws = [] →
       ∃ t, exec (.receptionCompletion p ws d w o) s = .next t ∧
         t.timing = { s.timing with sources := restarted } ∧ OnlyTimingAndLink s t p ws []) ∧
     (s.timing.sources.get src = .silent → framePayload ws = [] →
       ∃ t, exec (.receptionCompletion p ws d w o) s = .next t ∧
         t.timing = (if selectionOf restarted = s.timing.selected then { s.timing with sources := restarted }
           else
             { s.timing with
               sources := restarted
               selected := selectionOf restarted
               baseline := none
               holdRequest := true }) ∧
         Flag.sourceSwitch.isSet t.mgmt.flags =
           (Flag.sourceSwitch.isSet s.mgmt.flags || decide (selectionOf restarted ≠ s.timing.selected)) ∧
         OnlyTimingAndLink s t p ws [.sourceSwitch]))

/-- The selected source is A while A is ALIVE, B while B alone is, NONE while neither is (R5). A mark with a sequence
number from a SILENT source makes it ALIVE, its timer started (R2). A mark of B while A is ALIVE does no more. Otherwise
the selection first passes to the mark's source, with the baseline cleared, the hold-cycle request flag and
SOURCE_SWITCH set (R5, R6), and the mark is then examined: at an IDLE engine it is served with k = 1, without MARK_GAP,
in a hold cycle (R9, R10, R13); at a COMPUTING engine it is skipped and the flag and the cleared baseline stand (R8). A
pending COMMIT is swapped in first, a pending programme applied, the cycle is a hold cycle on them, and the request is
answered OK, the COMMIT with no monitor test running (R13, R54, R159); whether that reply is offered before or after the
frame is placed in the forward FIFO is the operand readFirst (the model's choice, log entry 7). -/
def Obligations.MarksOfASilentSourceTakeTheSelection : Prop :=
  (∀ v : PerSource SourceState,
     (v.a ≠ .silent → selectionOf v = some .a) ∧
     (v.a = .silent → v.b ≠ .silent → selectionOf v = some .b) ∧
     (v.a = .silent → v.b = .silent → selectionOf v = none)) ∧
  (∀ (p : Port) (ws : List Word) (d w o : Bool) (s : State) (src : Source) (seq : Word) (more : List Word),
     s.resetInProgress = false → passesCheck ws d w = true → wellFormatted ws = true →
     headerKind (frameHeader ws) = 1#3 → markSource s.tables (headerIdent (frameHeader ws)) = some src →
     framePayload ws = seq :: more → s.timing.sources.get src = .silent → SelectionInv s →
     let restarted := s.timing.sources.set src (.alive s.tables.active.silenceTimeout)
     (src = .b → s.timing.sources.a ≠ .silent → ∃ t, exec (.receptionCompletion p ws d w o) s = .next t ∧
       t.timing = { s.timing with sources := restarted } ∧ OnlyTimingAndLink s t p ws []) ∧
     (src = .a ∨ s.timing.sources.a = .silent →
       (∀ y, s.engine.computing = some y → ∃ t, exec (.receptionCompletion p ws d w o) s = .next t ∧
         t.timing = { s.timing with
           sources := restarted
           selected := some src
           baseline := none
           holdRequest := true
           skipped := s.timing.skipped + 1 } ∧
         Flag.sourceSwitch.isSet t.mgmt.flags = true ∧ Flag.markSkipped.isSet t.mgmt.flags = true ∧
         OnlyTimingAndLink s t p ws [.sourceSwitch, .markSkipped]) ∧
       (s.engine.computing = none → s.tables.commitPending = false → s.engine.pendingProgramme = none →
         ∃ t, exec (.receptionCompletion p ws d w o) s = .next t ∧ MarkServed s t p ws src seq 1 false true) ∧
       (s.engine.computing = none → s.tables.commitPending = true →
         ∃ t y, exec (.receptionCompletion p ws d w o) s = .next t ∧
           t.engine.computing = some y ∧ y.bank = s.tables.staged ∧ y.k = 1 ∧ y.seq = seq ∧ y.hold = true ∧
           y.number = s.timing.served + 1 ∧ t.timing.served = s.timing.served + 1 ∧ t.timing.reportPort = p ∧
           t.mgmt.executing = none ∧ Flag.sourceSwitch.isSet t.mgmt.flags = true ∧
           Flag.markGap.isSet t.mgmt.flags = Flag.markGap.isSet s.mgmt.flags ∧
           t.tables =
             { active := s.tables.staged, staged := s.tables.staged, activeValid := true, commitPending := false } ∧
           (s.tables.active.identA = s.tables.staged.identA → s.tables.active.identB = s.tables.staged.identB →
             t.timing.sources = restarted ∧ t.timing.selected = some src ∧ t.timing.baseline = some seq ∧
               t.timing.holdRequest = false) ∧
           ∀ r, s.mgmt.executing = some r → NoTest s → t.link = linkAnswered s p ws o r) ∧
       (∀ g, s.engine.computing = none → s.tables.commitPending = false → s.engine.pendingProgramme = some g →
         ∃ t, exec (.receptionCompletion p ws d w o) s = .next t ∧
           CycleServed (programmeApplied g s) t p src seq 1 false true [.insertLost] ∧
           ∀ r, s.mgmt.executing = some r → t.link = linkAnswered s p ws o r)))

/-- SILENCE_TIMER_EXPIRY: the source becomes SILENT. With A expiring and B ALIVE the selection passes to B: baseline
cleared, hold-cycle request flag and SOURCE_SWITCH set. With B expiring and A ALIVE nothing else changes. With the other
source SILENT the selection becomes NONE, MARKS_SILENT is set and an OPEN gate closes, with that cause when no COMMIT is
pending; its closing puts every driven corner in OFF at duty 0, its output switched off and, when no COMMIT is pending,
its target kept and settling, frees the slots, empties the pending list and cancels the staggered updates (R126). A
pending COMMIT swaps and a pending programme is applied; with no monitor test running the request is answered OK, and
with no change pending nothing is answered (R55, R160, R180). A timer that does not run changes nothing (log entry 1).
-/
def Obligations.SilenceExpiryMovesTheSelection : Prop :=
  ∀ (src : Source) (first : Bool) (s : State) (timeout : Nat), s.resetInProgress = false → SelectionInv s →
    (s.timing.sources.get src = .silent → exec (.silenceTimerExpiry src first) s = .next s) ∧
    (s.timing.sources.get src = .alive timeout →
      (src = .a → s.timing.sources.b ≠ .silent →
        exec (.silenceTimerExpiry src first) s = .next (setFlag .sourceSwitch
          { s with timing := { s.timing with
              sources := { s.timing.sources with a := .silent }
              selected := some .b
              baseline := none
              holdRequest := true } })) ∧
      (src = .b → s.timing.sources.a ≠ .silent →
        exec (.silenceTimerExpiry src first) s = .next
          { s with timing := { s.timing with sources := { s.timing.sources with b := .silent } } }) ∧
      ((src = .a → s.timing.sources.b = .silent) → (src = .b → s.timing.sources.a = .silent) →
        s.tables.commitPending = false →
        ∃ t, exec (.silenceTimerExpiry src first) s = .next t ∧
          t.timing = { s.timing with sources := ⟨.silent, .silent⟩, selected := none } ∧
          Flag.marksSilent.isSet t.mgmt.flags = true ∧
          OtherFlagsKept s.mgmt.flags t.mgmt.flags [.marksSilent, .insertLost] ∧
          t.gate = (if s.gate.isOpen then { isOpen := false, cause := .marksSilent } else s.gate) ∧
          t.engine.programme = s.engine.pendingProgramme.getD s.engine.programme ∧ t.engine.pendingProgramme = none ∧
          t.tables = s.tables ∧ t.capture = s.capture ∧ t.supply = s.supply ∧
          t.engine.computing = s.engine.computing ∧
          (s.gate.isOpen = true → NoTest s → DrivesSwitchedOff s t) ∧
          (s.gate.isOpen = false → t.drive = s.drive ∧ t.monitor = s.monitor) ∧
          (NoTest s → s.engine.pendingProgramme = none →
            t.link = s.link ∧ { t.mgmt with flags := s.mgmt.flags } = s.mgmt) ∧
          (∀ r, s.mgmt.executing = some r → NoTest s → s.engine.pendingProgramme ≠ none →
            t.link = (answer r .ok [] s).link ∧
              { t.mgmt with flags := s.mgmt.flags } = { s.mgmt with executing := none })) ∧
      ((src = .a → s.timing.sources.b = .silent) → (src = .b → s.timing.sources.a = .silent) →
        s.tables.commitPending = true →
        ∃ t, exec (.silenceTimerExpiry src first) s = .next t ∧ t.timing.selected = none ∧
          t.timing.sources = ⟨.silent, .silent⟩ ∧ Flag.marksSilent.isSet t.mgmt.flags = true ∧
          t.gate.isOpen = false ∧ t.mgmt.executing = none ∧
          (s.gate.isOpen = true → t.drive.slots = [] ∧ t.drive.waiting = [] ∧ ∀ c,
            t.drive.staggered.get c = none ∧
            (t.corner c).state = (if (s.corner c).state = .fault then .fault else .off) ∧
            ((s.corner c).state.isDriven = true → (t.corner c).duty = 0 ∧ (t.corner c).outputDuty = 0)) ∧
          t.tables =
            { active := s.tables.staged, staged := s.tables.staged, activeValid := true, commitPending := false } ∧
          (∀ r, s.mgmt.executing = some r → NoTest s →
            t.link = (answer r .ok [] s).link ∧
              { t.mgmt with flags := s.mgmt.flags } = { s.mgmt with executing := none })))

/-! ### The Control Engine -/

/-- COMPUTATION_COMPLETION: the engine returns to IDLE, an owed flush is done, and a hold cycle touches no drive record,
no monitor item, no gate and no request (R15, R16, R18). With the engine IDLE nothing changes (log entry 1). -/
def Obligations.HoldCyclesDeliverNothing : Prop :=
  ∀ s : State, s.resetInProgress = false →
    (s.engine.computing = none → exec .computationCompletion s = .next s) ∧
    ∀ y, AtCompletion s y → ∃ t, exec .computationCompletion s = .next t ∧
      t.engine.computing = none ∧ t.engine.flushOwed = false ∧
      (s.engine.flushOwed = true → t.engine.queue = [] ∧ t.engine.sides = ⟨.armed, .armed⟩) ∧
      t.engine.programme = s.engine.programme ∧ t.engine.pendingProgramme = s.engine.pendingProgramme ∧
      t.timing = s.timing ∧ t.capture = s.capture ∧ t.tables = s.tables ∧ t.supply = s.supply ∧ t.gate = s.gate ∧
      (y.hold = true → t.drive = s.drive ∧ t.monitor = s.monitor ∧ t.mgmt.executing = s.mgmt.executing ∧
        t.mgmt.queue = s.mgmt.queue)

/-- The damper velocity of each corner: 0 and SEEDED cleared when its travel is STALE; 0 and seeded with the travel when
SEEDED was clear; else the change of travel × 100000 / (T_us × k), to nearest, halves away from zero, clamped to
−2000..2000 (R41, R42, R43). -/
def Obligations.DamperVelocityFollowsTravel : Prop :=
  ∀ (s : State) (y : Cycle), AtCompletion s y → ∃ t, exec .computationCompletion s = .next t ∧ ∀ c,
    let x := y.snapshot.get (travelOf c)
    let e := s.engine.est.get c
    let n := t.engine.est.get c
    n.lastTravelLost = x.stale ∧
    (x.stale = true → n.lastVd = 0 ∧ n.seeded = false ∧ n.xPrev = e.xPrev) ∧
    (x.stale = false → e.seeded = false → n.lastVd = 0 ∧ n.seeded = true ∧ n.xPrev = x.value) ∧
    (x.stale = false → e.seeded = true →
      n.lastVd = clampInt (-2000) 2000 (roundAway ((x.value - e.xPrev) * 100000) (y.bank.tUs * y.k)) ∧
      n.seeded = true ∧ n.xPrev = x.value)

/-- The body velocity state of each corner takes k steps, each removing a leak of vb_q / 2^L truncated toward zero,
adding one increment, and clamping to −256000..256000; the increment is a × T_us × 256 / 1000000 to nearest, halves
away from zero, and 0 when the acceleration is STALE (R45, R46, R47). The odometer grows by s × T_us × k / 100,
truncated, modulo 2^32, when SPEED is fresh and above 0, and else stands (R48). -/
def Obligations.BodyVelocityAndOdometer : Prop :=
  (∀ (s : State) (y : Cycle), AtCompletion s y → ∃ t, exec .computationCompletion s = .next t ∧ ∀ c,
     let a := y.snapshot.get (accelOf c)
     let inc := if a.stale then 0 else roundAway (a.value * y.bank.tUs * 256) 1000000
     (t.engine.est.get c).lastSkyLost = a.stale ∧
     ∃ v : Nat → Int, v 0 = (s.engine.est.get c).vbQ ∧
       (∀ i, v (i + 1) = clampInt (-256000) 256000 (v i - (v i).tdiv (2 ^ y.bank.leakShift) + inc)) ∧
       (t.engine.est.get c).vbQ = v y.k) ∧
  (∀ (s : State) (y : Cycle), AtCompletion s y → ∃ t, exec .computationCompletion s = .next t ∧
     (y.snapshot.speed.stale = false → ∀ v : Nat, 0 < v → y.snapshot.speed.value = v →
       t.engine.odometer = s.engine.odometer + BitVec.ofNat 32 (v * y.bank.tUs * y.k / 100)) ∧
     (y.snapshot.speed.stale = true ∨ y.snapshot.speed.value ≤ 0 → t.engine.odometer = s.engine.odometer))

/-- Preview is ACTIVE when enable is 1, SPEED is fresh and at or above the minimum speed; in a cycle in which it is not,
the queue is emptied, both sides are ARMED, and the windows only count down by k (R74, R75, R88). In a cycle in which
it is, the completion writes what stage 5 makes of the queue and the windows at the new odometer, then the detection
at LEFT, then at RIGHT with the new damper velocities, and the windows counted down by k (R79, R83, R88); the queue
and the sides so unless a flush is owed. A refused entry, one that moves the preview-full count, sets PREVIEW_FULL
(R85), and a completion sets no other flag but INSERT_LOST. -/
def Obligations.CyclesRunOrFlushThePreview : Prop :=
  ∀ (s : State) (y : Cycle), AtCompletion s y → ∃ t, exec .computationCompletion s = .next t ∧
    (t.engine.previewActive = true ↔
      y.bank.previewEnable = 1 ∧ y.snapshot.speed.stale = false ∧ (y.bank.minimumSpeed : Int) ≤ y.snapshot.speed.value) ∧
    (t.engine.previewActive = false →
      t.engine.queue = [] ∧ t.engine.sides = ⟨.armed, .armed⟩ ∧ t.engine.previewFull = s.engine.previewFull ∧
      ∀ d, t.engine.windows.get d =
        { s.engine.windows.get d with remaining := (s.engine.windows.get d).remaining - y.k }) ∧
    (t.engine.previewActive = true →
      let due := takeDue y.bank t.engine.odometer s.engine.queue s.engine.windows
      let found := detectSide y .right (detectSide y .left
        { t.engine with queue := due.1, sides := s.engine.sides, previewFull := s.engine.previewFull })
      (s.engine.flushOwed = false → t.engine.queue = found.queue ∧ t.engine.sides = found.sides) ∧
      t.engine.previewFull = found.previewFull ∧
      ∀ d, t.engine.windows.get d = { due.2.get d with remaining := (due.2.get d).remaining - y.k }) ∧
    Flag.previewFull.isSet t.mgmt.flags =
      (Flag.previewFull.isSet s.mgmt.flags || decide (t.engine.previewFull ≠ s.engine.previewFull)) ∧
    OtherFlagsKept s.mgmt.flags t.mgmt.flags [.previewFull, .insertLost]

/-- Stage 5 removes from the head exactly the entries up to the first that is not due, and applies each in queue order;
an entry is due when its distance modulo 2^32 is at or above the wheelbase × 1000 and below 2^31 (R78, R79). An
applied entry takes the band whose lower bound is the highest at or below its peak: its side's window gets that
band's hold, and its scale, or the smaller of the two scales when the window was open. With no such band nothing
changes, and the other side's window never does (R80, R81). The lower bounds increase. -/
def Obligations.DueEntriesOpenRearWindows : Prop :=
  (∀ (b : Bank) (odometer : Count) (q : List PreviewEntry) (ws : PerSide Window),
     let due := fun p : PreviewEntry =>
       b.wheelbase * 1000 ≤ (odometer - p.stamp).toNat ∧ (odometer - p.stamp).toNat < 2147483648
     ∃ taken, q = taken ++ (takeDue b odometer q ws).1 ∧ (∀ p ∈ taken, due p) ∧
       (∀ p ps, (takeDue b odometer q ws).1 = p :: ps → ¬ due p) ∧
       (takeDue b odometer q ws).2 = taken.foldl (fun v p => applyEntry b p v) ws) ∧
  (∀ (b : Bank) (p : PreviewEntry) (ws : PerSide Window),
     b.bandBound 0 < b.bandBound 1 → b.bandBound 1 < b.bandBound 2 → b.bandBound 2 < b.bandBound 3 →
     (p.peak < b.bandBound 0 → applyEntry b p ws = ws) ∧
     (∀ i, i ≤ 3 → b.bandBound i ≤ p.peak → (i < 3 → p.peak < b.bandBound (i + 1)) →
       ((applyEntry b p ws).get p.side).remaining = b.bandHold i ∧
       ((applyEntry b p ws).get p.side).scale =
         (if (ws.get p.side).remaining = 0 then b.bandScale i else min (ws.get p.side).scale (b.bandScale i))) ∧
     (∀ d, d ≠ p.side → (applyEntry b p ws).get d = ws.get d))

/-- The detection of front events at one side, row by row of R83: STALE travel arms the side; an ARMED side opens an
event at or above the trigger, appended with room for it and refused and counted at 16 entries; an IN_EVENT side is
armed below half the trigger and else raises its open entry's peak (R84, R85, R86, R87). -/
def Obligations.FrontEventsAreDetected : Prop :=
  ∀ (y : Cycle) (d : Side) (e : Engine),
    let x := y.snapshot.get (travelOf (frontOf d))
    let v := (e.est.get (frontOf d)).lastVd
    let closed := e.queue.map fun p => if p.side = d ∧ p.isOpen = true then { p with isOpen := false } else p
    (x.stale = true → detectSide y d e = { e with queue := closed, sides := e.sides.set d .armed }) ∧
    (x.stale = false → e.sides.get d = .armed →
      (v.natAbs < y.bank.trigger → detectSide y d e = e) ∧
      (y.bank.trigger ≤ v.natAbs → e.queue.length < 16 →
        detectSide y d e =
          { e with
            sides := e.sides.set d .inEvent
            queue := e.queue ++
              [{ side := d, kind := if 0 < v then .bump else .dip, stamp := e.odometer, peak := v.natAbs, isOpen := true }] }) ∧
      (y.bank.trigger ≤ v.natAbs → 16 ≤ e.queue.length →
        detectSide y d e = { e with sides := e.sides.set d .inEvent, previewFull := e.previewFull + 1 })) ∧
    (x.stale = false → e.sides.get d = .inEvent →
      (v.natAbs < y.bank.trigger / 2 →
        detectSide y d e = { e with queue := closed, sides := e.sides.set d .armed }) ∧
      (y.bank.trigger / 2 ≤ v.natAbs →
        detectSide y d e =
          { e with queue := e.queue.map fun p =>
              if p.side = d ∧ p.isOpen = true then { p with peak := max p.peak v.natAbs } else p }))

/-- The schedule values of a completed cycle at the lookup speed |s|: those of point 0 at or below it, of point 7 at or
above it, and in segment i the interpolation step of points i and i + 1 with the truncated fraction (R59, R60, R61,
R63). The speeds of the schedule increase. -/
def Obligations.ScheduleIsInterpolatedAtTheSpeed : Prop :=
  ∀ (s : State) (y : Cycle), AtCompletion s y →
    (∀ j, j < 7 → y.bank.schedule y.programme j 0 < y.bank.schedule y.programme (j + 1) 0) →
    ∃ t, exec .computationCompletion s = .next t ∧
      t.engine.lookupSpeed = y.snapshot.speed.value.natAbs ∧
      (let pt := fun j f => y.bank.schedule y.programme j f
       let x := y.snapshot.speed.value.natAbs
       ∀ got f, (got, f) ∈ [(t.engine.cSky, 1), (t.engine.cBase, 2), (t.engine.fMax, 3)] →
        (x ≤ pt 0 0 → got = pt 0 f) ∧ (pt 7 0 ≤ x → got = pt 7 f) ∧
        ∀ i, i < 7 → pt i 0 ≤ x → x < pt (i + 1) 0 → pt 0 0 < x →
          (got : Int) = pt i f +
            (((pt (i + 1) f : Int) - pt i f) * ((x - pt i 0) * 256 / (pt (i + 1) 0 - pt i 0) : Nat) + 128) / 256)

/-- The demand force of each corner of a completed cycle: the base force, plus the skyhook term when the wanted force and
the damper velocity have one sign and the corner is not in SKY_LOST, limited to f_max, and for a rear corner with a
window open after stage 5 scaled by it (R65 to R69). The target of each corner of a completed cycle: the fallback
current of its axle when its travel is lost, else the map current at its damper speed and demand force, clamped into
the range of its axle (R96, R101, R102, R104). -/
def Obligations.ForcesAndTargetsFollowTheStages : Prop :=
  (∀ (s : State) (y : Cycle), AtCompletion s y → ∃ t, exec .computationCompletion s = .next t ∧ ∀ c,
     let n := t.engine.est.get c
     let want := roundAway (-(t.engine.cSky : Int) * n.vbQ) 256000
     let base := roundHalfUp (t.engine.cBase * n.lastVd.natAbs) 1000
     let sky := if want ≠ 0 ∧ n.lastVd ≠ 0 ∧ (0 < want ↔ 0 < n.lastVd) ∧ n.lastSkyLost = false then want.natAbs else 0
     let force := min (base + sky) t.engine.fMax
     let opened := if t.engine.previewActive then
       (takeDue y.bank t.engine.odometer s.engine.queue s.engine.windows).2 else s.engine.windows
     (t.engine.results.get c).fSky = sky ∧
     (t.engine.results.get c).fDem =
       (match c with
        | .fl => force
        | .fr => force
        | .rl => if 0 < opened.left.remaining then force * opened.left.scale / 256 else force
        | .rr => if 0 < opened.right.remaining then force * opened.right.scale / 256 else force)) ∧
  (∀ (s : State) (y : Cycle), AtCompletion s y → ∃ t, exec .computationCompletion s = .next t ∧ ∀ c,
     let n := t.engine.est.get c
     let r := t.engine.results.get c
     let x := axleOf c
     (n.lastTravelLost = true → r.source = .fallback ∧ r.mapCurrent = y.bank.iFallback x) ∧
     (n.lastTravelLost = false →
       r.source = .map ∧ r.mapCurrent = mapCurrentAt y.bank x n.lastVd.natAbs r.fDem) ∧
     (r.mapCurrent < y.bank.iMin x → r.target = y.bank.iMin x) ∧
     (y.bank.iMin x ≤ r.mapCurrent → y.bank.iMax x < r.mapCurrent → r.target = y.bank.iMax x) ∧
     (y.bank.iMin x ≤ r.mapCurrent → r.mapCurrent ≤ y.bank.iMax x → r.target = r.mapCurrent))

/-- The map current inside a grid cell is two steps along the force axis, at the cell's lower and upper velocity point,
and one along the velocity axis between their results; an input below an axis reads as its first point, one at or
beyond the last point reads the last row or column (R97 to R100). The points of both axes increase. -/
def Obligations.ValveMapTakesThreeSteps : Prop :=
  ∀ (b : Bank) (x : Axle) (u f i j : Nat), i < 7 → j < 7 →
    (∀ n, n < 7 → b.velocityPoint x n < b.velocityPoint x (n + 1)) →
    (∀ n, n < 7 → b.forcePoint x n < b.forcePoint x (n + 1)) →
    let cell := fun fv ff =>
      interpolate (interpolate (b.mapCurrent x i j) (b.mapCurrent x i (j + 1)) ff)
        (interpolate (b.mapCurrent x (i + 1) j) (b.mapCurrent x (i + 1) (j + 1)) ff) fv
    let fraction := fun (v lo hi : Nat) => (v - lo) * 256 / (hi - lo)
    (b.velocityPoint x i ≤ u → u < b.velocityPoint x (i + 1) →
      b.forcePoint x j ≤ f → f < b.forcePoint x (j + 1) →
      mapCurrentAt b x u f =
        cell (fraction u (b.velocityPoint x i) (b.velocityPoint x (i + 1)))
          (fraction f (b.forcePoint x j) (b.forcePoint x (j + 1)))) ∧
    (b.velocityPoint x 7 ≤ u → b.forcePoint x j ≤ f → f < b.forcePoint x (j + 1) →
      mapCurrentAt b x u f = interpolate (b.mapCurrent x 7 j) (b.mapCurrent x 7 (j + 1))
        (fraction f (b.forcePoint x j) (b.forcePoint x (j + 1)))) ∧
    (b.velocityPoint x i ≤ u → u < b.velocityPoint x (i + 1) → b.forcePoint x 7 ≤ f →
      mapCurrentAt b x u f = interpolate (b.mapCurrent x i 7) (b.mapCurrent x (i + 1) 7)
        (fraction u (b.velocityPoint x i) (b.velocityPoint x (i + 1)))) ∧
    (b.velocityPoint x 7 ≤ u → b.forcePoint x 7 ≤ f → mapCurrentAt b x u f = b.mapCurrent x 7 7) ∧
    (u ≤ b.velocityPoint x 0 → mapCurrentAt b x u f = mapCurrentAt b x (b.velocityPoint x 0) f) ∧
    (f ≤ b.forcePoint x 0 → mapCurrentAt b x u f = mapCurrentAt b x u (b.forcePoint x 0))

/-- A cycle, hold cycle or delivering, whose number is a multiple of the report divider plus one offers one REPORT to the
report port; one whose number is not offers nothing. The REPORT's eight words carry the gate, cause, programme,
source and hold bit, the flag word, the four targets and the drive states as they stand after the delivery, with the
queue's count, and the mark's sequence number (R20, R189, R190). In a delivering cycle no monitor test runs. -/
def Obligations.ReportsFollowTheDivider : Prop :=
  ∀ (s : State) (y : Cycle), AtCompletion s y → (y.hold = true ∨ NoTest s) →
    ∃ t, exec .computationCompletion s = .next t ∧
    (y.number.toNat % (y.bank.reportDivider + 1) ≠ 0 → t.link = s.link) ∧
    (y.number.toNat % (y.bank.reportDivider + 1) = 0 →
      ∃ w : Word, (∀ f : Flag, f.isSet w =
          if f = .insertLost then f.isSet s.mgmt.flags else f.isSet t.mgmt.flags) ∧
        t.link = (offerFrame 2 s.timing.reportPort (reportOf s t y w) s).link)

/-! ### Targets and boosts -/

/-- A staggered update that reaches a corner in OFF or FAULT is discarded; in HOLD a step below the boost step changes
the target and forms the duty anew, settling when the value changes; a larger step takes a free slot and goes to
BOOST, or with both slots held goes to WAIT at the list's tail with the old target as its request base (R111, R112,
R116, R123). No monitor test runs. With no update outstanding nothing changes (log entry 1). A staggered update that
reaches a corner in WAIT replaces its target and is tested against the request base: the request stands, or the
corner leaves the list for HOLD. In BOOST a target not lowered is taken into the boost, a lowered one ends it and
passes the slot on (R113, R114, R117). No monitor test runs. -/
def Obligations.StaggeredUpdatesReachTheirCorners : Prop :=
  (∀ (c : Corner) (s : State), s.resetInProgress = false → NoTest s →
     (s.drive.staggered.get c = none → exec (.staggeredUpdate c) s = .next s) ∧
     ∀ u, s.drive.staggered.get c = some u →
       let i := clampNat (s.tables.active.iMin (axleOf c)) (s.tables.active.iMax (axleOf c)) u.target
       let held := (s.corner c).target
       ((s.corner c).state = .off ∨ (s.corner c).state = .fault →
         exec (.staggeredUpdate c) s = .next (s.setStaggered (s.drive.staggered.set c none))) ∧
       ((s.corner c).state = .hold → ∃ t, exec (.staggeredUpdate c) s = .next t ∧
         OnlyDriveAndFlags s t ∧ t.mgmt.flags = s.mgmt.flags ∧ OnlyCorners s t [c] ∧
         t.drive.staggered = s.drive.staggered.set c none ∧
         ((i : Int) - held < s.tables.active.boostStep →
           t.corner c = { s.corner c with target := i, duty := feedForward s c i } ∧
           t.monitorOf c = (if i = held then s.monitorOf c else settling s) ∧
           t.drive.slots = s.drive.slots ∧ t.drive.waiting = s.drive.waiting) ∧
         ((s.tables.active.boostStep : Int) ≤ (i : Int) - held → s.drive.slots.length < 2 →
           t.corner c =
             { s.corner c with state := .boost s.tables.active.boostTimeout, target := i, duty := 980 } ∧
           t.monitorOf c = s.monitorOf c ∧ t.drive.slots = s.drive.slots ++ [c] ∧
           t.drive.waiting = s.drive.waiting) ∧
         ((s.tables.active.boostStep : Int) ≤ (i : Int) - held → 2 ≤ s.drive.slots.length →
           t.corner c = { s.corner c with state := .wait held, target := i, duty := feedForward s c i } ∧
           t.monitorOf c = settling s ∧ t.drive.slots = s.drive.slots ∧
           t.drive.waiting = s.drive.waiting ++ [c]))) ∧
  (∀ (c : Corner) (s : State) (u : Staggered), s.resetInProgress = false → NoTest s → DriveInv s →
     s.drive.staggered.get c = some u →
     let i := clampNat (s.tables.active.iMin (axleOf c)) (s.tables.active.iMax (axleOf c)) u.target
     let held := (s.corner c).target
     (∀ base, (s.corner c).state = .wait base → ∃ t, exec (.staggeredUpdate c) s = .next t ∧
       OnlyDriveAndFlags s t ∧ t.mgmt.flags = s.mgmt.flags ∧ OnlyCorners s t [c] ∧ t.drive.slots = s.drive.slots ∧
       t.drive.staggered = s.drive.staggered.set c none ∧
       ((s.tables.active.boostStep : Int) ≤ (i : Int) - base →
         t.corner c = { s.corner c with target := i, duty := feedForward s c i } ∧
         t.monitorOf c = (if i = held then s.monitorOf c else settling s) ∧ t.drive.waiting = s.drive.waiting) ∧
       ((i : Int) - base < s.tables.active.boostStep →
         t.corner c = { s.corner c with state := .hold, target := i, duty := feedForward s c i } ∧
         t.monitorOf c = settling s ∧ t.drive.waiting = s.drive.waiting.erase c)) ∧
     (∀ timeout, (s.corner c).state = .boost timeout → ∃ t, exec (.staggeredUpdate c) s = .next t ∧
       OnlyDriveAndFlags s t ∧ t.mgmt.flags = s.mgmt.flags ∧ t.drive.staggered = s.drive.staggered.set c none ∧
       (held ≤ i → t.corner c = { s.corner c with target := i } ∧ t.monitorOf c = s.monitorOf c ∧
         OnlyCorners s t [c] ∧ t.drive.slots = s.drive.slots ∧ t.drive.waiting = s.drive.waiting) ∧
       (i < held → t.corner c = { s.corner c with state := .hold, target := i, duty := feedForward s c i } ∧
         t.monitorOf c = settling s ∧ SlotPassedOn s t c)))

/-- BOOST_TIMER_EXPIRY of a corner in BOOST: HOLD at its target and feed-forward duty, its boost-timeout count raised,
BOOST_TIMEOUT set, the slot passed on (R120). No monitor test runs. In any other state nothing changes (log entry 1).
CURRENT_MEASUREMENT of a corner in BOOST: the average, clamped at 2500, is kept; at or above the target less the boost
band it ends the boost and the slot passes on; below it the boost goes on; neither is judged (R108, R119). No monitor
test runs. A CURRENT_MEASUREMENT of any corner is kept as its last measured current and, but for a corner it faults,
leaves every output as it runs (R108). The corner's period has then ended, and with the last of the four the next
periods of all four corners start together, each with its record's duty and the PWM period in force (R108; that the
start follows the last measurement, and what a second measurement before it finds, is the model's reading, log entries
10, 22 and 23). -/
def Obligations.BoostsEndByTimerOrWithinTheBand : Prop :=
  (∀ (c : Corner) (s : State), s.resetInProgress = false → NoTest s → DriveInv s →
     ((∀ timeout, (s.corner c).state ≠ .boost timeout) → exec (.boostTimerExpiry c) s = .next s) ∧
     ∀ timeout, (s.corner c).state = .boost timeout → ∃ t, exec (.boostTimerExpiry c) s = .next t ∧
       OnlyDriveAndFlags s t ∧ Flag.boostTimeout.isSet t.mgmt.flags = true ∧
       OtherFlagsKept s.mgmt.flags t.mgmt.flags [.boostTimeout] ∧ t.drive.staggered = s.drive.staggered ∧
       t.corner c =
         { s.corner c with
           state := .hold
           duty := feedForward s c (s.corner c).target
           timeouts := (s.corner c).timeouts + 1 } ∧
       t.monitorOf c = settling s ∧ SlotPassedOn s t c) ∧
  (∀ (c : Corner) (average timeout : Nat) (before : State), before.resetInProgress = false → NoTest before →
     DriveInv before → (before.corner c).state = .boost timeout →
     let m := min 2500 average
     let s := periodRunning c before
     ∃ t, exec (.currentMeasurement c average) before = .next (periodOver c t) ∧ OnlyDriveAndFlags s t ∧
       t.mgmt.flags = s.mgmt.flags ∧ t.drive.staggered = s.drive.staggered ∧
       (((s.corner c).target : Int) - s.tables.active.boostBand ≤ m →
         t.corner c =
           { s.corner c with
             state := .hold
             duty := feedForward s c (s.corner c).target
             measured := m } ∧
         t.monitorOf c = settling s ∧ SlotPassedOn s t c) ∧
       ((m : Int) < (s.corner c).target - s.tables.active.boostBand →
         t.corner c = { s.corner c with measured := m } ∧ t.monitorOf c = s.monitorOf c ∧ OnlyCorners s t [c] ∧ t.drive.slots = s.drive.slots ∧
         t.drive.waiting = s.drive.waiting)) ∧
  (∀ (c : Corner) (average : Nat) (before : State), before.resetInProgress = false →
     let s := periodRunning c before
     ∃ t, exec (.currentMeasurement c average) before = .next (periodOver c t) ∧
       (t.corner c).measured = min 2500 average ∧ t.tables = s.tables ∧ ∀ d,
         (t.corner d).periodEnded = (s.corner d).periodEnded ∧ (t.corner d).periodLength = (s.corner d).periodLength ∧
         (t.corner d).outputDuty =
           (if (t.corner d).state = .fault ∧ (s.corner d).state ≠ .fault then 0 else (s.corner d).outputDuty))

/-- A TOGETHER delivery ranks the requests: a permutation of them, larger step first, and equal steps in the order they
had (R118 step 4). In a TOGETHER delivery, no test running, a corner in OFF or FAULT is left as it was; a corner in
WAIT keeps its place when its request still stands and goes to HOLD when it does not; a corner in BOOST takes a
target not lowered into its boost and goes to HOLD at a lowered one; the slots so freed go to the heads of the
pending list; a corner in HOLD with a step below the boost step changes its target alone; the requests take the slots
still free down the ranking, and the rest join the list's tail in ranking order with their old targets as request
bases (R111, R118). A corner is held in HOLD and WAIT, off in OFF and FAULT, and driven in HOLD, WAIT and BOOST
(R107). -/
def Obligations.TogetherDeliveryGrantsDownTheRanking : Prop :=
  (∀ (step : Corner → Int) (cs : List Corner),
     (rank step cs).Perm cs ∧ (rank step cs).Pairwise (fun c d => step d ≤ step c) ∧
       ∀ v : Int, (rank step cs).filter (fun c => step c == v) = cs.filter (fun c => step c == v)) ∧
  (∀ (targets : PerCorner Nat) (s : State), NoTest s → ArbiterLaws s →
     let i := broughtTo targets s
     let held := fun c => (s.corner c).target
     let freed := freedSlots targets s
     let kept := keptWaiting targets s
     let t := deliverTogether targets s
     let unsettled := fun c => if i c = held c then s.monitorOf c else settling s
     t.drive.slots = slotsBeforeRequests targets s ++ grantedRequests targets s ∧
     t.drive.waiting = kept.drop freed ++ leftRequests targets s ∧
     OnlyDriveAndFlags s t ∧ t.mgmt = s.mgmt ∧ t.drive.staggered = s.drive.staggered ∧
     ∀ c,
       ((s.corner c).state = .off ∨ (s.corner c).state = .fault →
         t.corner c = s.corner c ∧ t.monitorOf c = s.monitorOf c) ∧
       (∀ base, (s.corner c).state = .wait base →
         (requestStands targets s c = false →
           t.corner c = { s.corner c with state := .hold, target := i c, duty := feedForward s c (i c) } ∧
           t.monitorOf c = settling s) ∧
         (c ∈ kept.take freed →
           t.corner c =
             { s.corner c with state := .boost s.tables.active.boostTimeout, target := i c, duty := 980 } ∧
           t.monitorOf c = unsettled c) ∧
         (c ∈ kept.drop freed →
           t.corner c = { s.corner c with target := i c, duty := feedForward s c (i c) } ∧
           t.monitorOf c = unsettled c)) ∧
       (∀ timeout, (s.corner c).state = .boost timeout →
         (boostLowered targets s c = false →
           t.corner c = { s.corner c with target := i c, duty := 980 } ∧ t.monitorOf c = s.monitorOf c) ∧
         (boostLowered targets s c = true →
           t.corner c = { s.corner c with state := .hold, target := i c, duty := feedForward s c (i c) } ∧
           t.monitorOf c = settling s)) ∧
       ((s.corner c).state = .hold →
         (asksForBoost targets s c = false →
           t.corner c = { s.corner c with target := i c, duty := feedForward s c (i c) } ∧
           t.monitorOf c = unsettled c) ∧
         (c ∈ grantedRequests targets s →
           t.corner c =
             { s.corner c with state := .boost s.tables.active.boostTimeout, target := i c, duty := 980 } ∧
           t.monitorOf c = s.monitorOf c) ∧
         (c ∈ leftRequests targets s →
           t.corner c =
             { s.corner c with state := .wait (held c), target := i c, duty := feedForward s c (i c) } ∧
           t.monitorOf c = settling s))) ∧
  (∀ d : DriveState, (d.isHeld = true ↔ d = .hold ∨ ∃ base, d = .wait base) ∧
     (d.isOff = true ↔ d = .off ∨ d = .fault) ∧
     (d.isDriven = true ↔ d = .hold ∨ (∃ base, d = .wait base) ∨ ∃ timeout, d = .boost timeout))

/-- The completion of a delivering cycle under STAGGERED order cancels every outstanding staggered update, updates FL,
and starts FR, RL and RR with the cycle's targets at T_us / 4, T_us / 2 and 3 × T_us / 4, truncated (R123, R124);
under TOGETHER order the four targets reach the records as one TOGETHER delivery, and none is left outstanding (R122,
R124). A STAGGERED_UPDATE is the same target update event, of the held target (R123). -/
def Obligations.DeliveryFollowsTheUpdateOrder : Prop :=
  (∀ (s : State) (y : Cycle), AtCompletion s y → y.hold = false → ∃ t, exec .computationCompletion s = .next t ∧
     let target := fun c => (t.engine.results.get c).target
     (y.bank.isStaggered = true →
       t.drive.staggered =
         { fl := none
           fr := some { target := target .fr, offset := y.bank.tUs / 4 }
           rl := some { target := target .rl, offset := y.bank.tUs / 2 }
           rr := some { target := target .rr, offset := 3 * y.bank.tUs / 4 } } ∧
       t.drive.slots = (updateTarget .fl (target .fl) s).drive.slots ∧
       t.drive.waiting = (updateTarget .fl (target .fl) s).drive.waiting ∧
       ∀ c, t.corner c = (updateTarget .fl (target .fl) s).corner c ∧
         t.monitorOf c = (updateTarget .fl (target .fl) s).monitorOf c) ∧
     (y.bank.isStaggered = false →
       let together := deliverTogether (PerCorner.ofFn target) s
       (∀ c, t.drive.staggered.get c = none) ∧
       t.drive.slots = together.drive.slots ∧ t.drive.waiting = together.drive.waiting ∧
       ∀ c, t.corner c = together.corner c ∧ t.monitorOf c = together.monitorOf c)) ∧
  (∀ (c : Corner) (s : State) (u : Staggered), s.resetInProgress = false → s.drive.staggered.get c = some u →
     exec (.staggeredUpdate c) s = .next (updateTarget c u.target (s.setStaggered (s.drive.staggered.set c none))))

/-! ### Measurements -/

/-- CURRENT_MEASUREMENT of a corner in HOLD or WAIT under no test: kept; ignored while ACTIVE is not valid or while
settling, which counts down; else the deviation count rises or becomes 0, and at the fault count a fault is latched,
OPEN below 50 mA and DEVIATION otherwise: CORNER_FAULT set, the corner in FAULT at duty 0, off the pending list,
settling (R121, R131, R132). The corner's period has then ended, and with the last of the four the next periods of all
four corners start together, each with its record's duty and the PWM period in force (R108; that the start follows the
last measurement, and what a second measurement before it finds, is the model's reading, log entries 10, 22 and 23). -/
def Obligations.DrivenCornersAreJudgedByTolerance : Prop :=
  ∀ (c : Corner) (average : Nat) (before : State), before.resetInProgress = false →
    (before.corner c).state.isHeld = true → (before.monitorOf c).test = none →
    let m := min 2500 average
    let s := periodRunning c before
    let mon := s.monitorOf c
    let kept := { s.corner c with measured := m }
    let off := (s.tables.active.tolerance : Int) < |(m : Int) - (s.corner c).target|
    ∃ t, exec (.currentMeasurement c average) before = .next (periodOver c t) ∧ OnlyDriveAndFlags s t ∧ OnlyCorners s t [c] ∧
      t.drive.slots = s.drive.slots ∧ t.drive.staggered = s.drive.staggered ∧
      OtherFlagsKept s.mgmt.flags t.mgmt.flags [.cornerFault] ∧
      (s.tables.activeValid = false → t.corner c = kept ∧ t.monitorOf c = mon ∧ t.drive.waiting = s.drive.waiting ∧
        t.mgmt.flags = s.mgmt.flags) ∧
      (s.tables.activeValid = true → 0 < mon.settle →
        t.corner c = kept ∧ t.monitorOf c = { mon with settle := mon.settle - 1 } ∧
        t.drive.waiting = s.drive.waiting ∧ t.mgmt.flags = s.mgmt.flags) ∧
      (s.tables.activeValid = true → mon.settle = 0 →
        (¬ off → t.corner c = kept ∧ t.monitorOf c = { mon with deviation := 0 } ∧
          t.drive.waiting = s.drive.waiting ∧ t.mgmt.flags = s.mgmt.flags) ∧
        (off → mon.deviation + 1 < s.tables.active.faultCount →
          t.corner c = kept ∧ t.monitorOf c = { mon with deviation := mon.deviation + 1 } ∧
          t.drive.waiting = s.drive.waiting ∧ t.mgmt.flags = s.mgmt.flags) ∧
        (off → s.tables.active.faultCount ≤ mon.deviation + 1 →
          t.corner c =
            { kept with
              state := .fault
              duty := 0
              outputDuty := 0
              cause := if m < 50 then .openCoil else .deviation } ∧
          t.monitorOf c = settling s ∧ t.drive.waiting = s.drive.waiting.erase c ∧
          Flag.cornerFault.isSet t.mgmt.flags = true))

/-- CURRENT_MEASUREMENT of a corner in OFF or FAULT: not judged while ACTIVE is not valid; while settling it is ignored;
else above 150 mA the stuck count rises and at or below becomes 0; at the fault count STUCK_ON is latched and
CORNER_FAULT set: an OFF corner goes to FAULT and settles, a FAULT corner changes its cause alone, its stuck count 0
(R131, R133). The corner's period has then ended, and with the last of the four the next periods of all four corners
start together, each with its record's duty and the PWM period in force (R108; that the start follows the last
measurement, and what a second measurement before it finds, is the model's reading, log entries 10, 22 and 23). -/
def Obligations.UndrivenCornersAreJudgedForStuckCurrent : Prop :=
  ∀ (c : Corner) (average : Nat) (before : State), before.resetInProgress = false →
    (before.corner c).state.isOff = true → (before.monitorOf c).test = none → c ∉ before.drive.waiting →
    let m := min 2500 average
    let s := periodRunning c before
    let mon := s.monitorOf c
    let kept := { s.corner c with measured := m }
    ∃ t, exec (.currentMeasurement c average) before = .next (periodOver c t) ∧ OnlyDriveAndFlags s t ∧ OnlyCorners s t [c] ∧
      { t.drive with corners := s.drive.corners } = s.drive ∧
      OtherFlagsKept s.mgmt.flags t.mgmt.flags [.cornerFault] ∧
      (s.tables.activeValid = false → t.corner c = kept ∧ t.monitorOf c = mon ∧ t.mgmt.flags = s.mgmt.flags) ∧
      (s.tables.activeValid = true → 0 < mon.settle →
        t.corner c = kept ∧ t.monitorOf c = { mon with settle := mon.settle - 1 } ∧ t.mgmt.flags = s.mgmt.flags) ∧
      (s.tables.activeValid = true → mon.settle = 0 →
        (m ≤ 150 → t.corner c = kept ∧ t.monitorOf c = { mon with stuck := 0 } ∧ t.mgmt.flags = s.mgmt.flags) ∧
        (150 < m → mon.stuck + 1 < s.tables.active.faultCount →
          t.corner c = kept ∧ t.monitorOf c = { mon with stuck := mon.stuck + 1 } ∧ t.mgmt.flags = s.mgmt.flags) ∧
        (150 < m → s.tables.active.faultCount ≤ mon.stuck + 1 →
          t.corner c =
            (if (s.corner c).state = .fault then { kept with cause := .stuckOn }
              else { kept with state := .fault, duty := 0, outputDuty := 0, cause := .stuckOn }) ∧
          Flag.cornerFault.isSet t.mgmt.flags = true ∧
          t.monitorOf c = (if (s.corner c).state = .fault then { mon with stuck := 0 } else settling s)))

/-- A judged measurement of the corner under test is judged with the offset of twice the tolerance. The test ends PASS
at the fault count of deviations, and FAIL, with MONITOR_FAILED, at the fault count + 8 judged measurements; either end
answers OK with the outcome and the judged count and leaves the corner in HOLD; otherwise it goes on with its judged
count raised (R137). The corner's period has then ended, and with the last of the four the next periods of all four
corners start together, each with its record's duty and the PWM period in force (R108; that the start follows the last
measurement, and what a second measurement before it finds, is the model's reading, log entries 10, 22 and 23). -/
def Obligations.MonitorTestsPassOrFail : Prop :=
  ∀ (c : Corner) (average : Nat) (before : State) (x : MonitorTest) (r : Request), before.resetInProgress = false →
    before.tables.activeValid = true → (before.corner c).state = .hold → (before.monitorOf c).settle = 0 →
    (before.monitorOf c).test = some x → before.mgmt.executing = some r →
    let m := min 2500 average
    let s := periodRunning c before
    let offset : Int :=
      match x.direction with
      | .high => 2 * s.tables.active.tolerance
      | .low => -(2 * s.tables.active.tolerance)
    let n := if (s.tables.active.tolerance : Int) < |(m : Int) + offset - (s.corner c).target| then
      (s.monitorOf c).deviation + 1 else 0
    let ended := { s with mgmt := { s.mgmt with executing := none } }
    ∃ t, exec (.currentMeasurement c average) before = .next (periodOver c t) ∧ OnlyCorners s t [c] ∧
      t.corner c = { s.corner c with measured := m } ∧
      (s.tables.active.faultCount ≤ n →
        t.monitorOf c = { s.monitorOf c with deviation := 0, test := none } ∧
        t.link = (answer r .ok [0#16, natWord (x.judged + 1)] ended).link ∧
        t.mgmt = (answer r .ok [0#16, natWord (x.judged + 1)] ended).mgmt) ∧
      (n < s.tables.active.faultCount → s.tables.active.faultCount + 8 ≤ x.judged + 1 →
        t.monitorOf c = { s.monitorOf c with deviation := 0, test := none } ∧
        t.link = (answer r .ok [1#16, natWord (x.judged + 1)] ended).link ∧
        Flag.monitorFailed.isSet t.mgmt.flags = true ∧ t.mgmt.executing = none) ∧
      (n < s.tables.active.faultCount → x.judged + 1 < s.tables.active.faultCount + 8 →
        t.monitorOf c =
          { s.monitorOf c with deviation := n, test := some { x with judged := x.judged + 1 } } ∧
        t.link = s.link ∧ t.mgmt = s.mgmt)

/-- A monitor test ends ABORTED, answered with the judged count, when its corner leaves HOLD: when a staggered update or
a delivery takes it to BOOST (its deviation count then 0, the model's choice, log entry 9) or to WAIT, and when the
gate closes on a supply cut or on the loss of both sources; a staggered update finds BOOST with a slot free and WAIT
with both held, a request of a TOGETHER delivery by its place in the ranking (R116, R118); the REPORT of the same
completion, its eight words as they stand after the delivery, is offered after that answer (the model's choice, log
entry 11). A change of the target below the boost step starts settling, and the test goes on with its judged count; a
measurement while settling is not counted (R130, R137, R138). What a TOGETHER delivery does is said where the arbiter
keeps its laws (R115). -/
def Obligations.MonitorTestsAreAbortedOrGoOn : Prop :=
  ∀ (c : Corner) (s : State) (x : MonitorTest) (r : Request), s.resetInProgress = false → TestRunsAt s c x r →
    let ended := abortAnswered s x r
    let step : Int := s.tables.active.boostStep
    let held := (s.corner c).target
    (∀ u, s.drive.staggered.get c = some u →
      let i := clampNat (s.tables.active.iMin (axleOf c)) (s.tables.active.iMax (axleOf c)) u.target
      ∃ t, exec (.staggeredUpdate c) s = .next t ∧
        ((i : Int) - held < step → (t.corner c).state = .hold ∧ (t.corner c).target = i ∧
          t.monitorOf c = (if i = held then s.monitorOf c else { settling s with test := some x }) ∧
          t.mgmt = s.mgmt ∧ t.link = s.link) ∧
        (step ≤ (i : Int) - held → t.link = ended.link ∧ t.mgmt = ended.mgmt ∧
          (s.drive.slots.length < 2 → (t.corner c).state = .boost s.tables.active.boostTimeout ∧
            t.monitorOf c = { s.monitorOf c with deviation := 0, test := none }) ∧
          (2 ≤ s.drive.slots.length → (t.corner c).state = .wait held ∧ t.monitorOf c = settling s))) ∧
    (∀ average, s.tables.activeValid = true → 0 < (s.monitorOf c).settle →
      ∃ t, exec (.currentMeasurement c average) s = .next t ∧ (t.corner c).state = .hold ∧
        t.monitorOf c = { s.monitorOf c with settle := (s.monitorOf c).settle - 1 } ∧ t.mgmt = s.mgmt ∧
        t.link = s.link) ∧
    (∀ v, v ≤ 20000 → s.tables.activeValid = true → v < s.tables.active.vCut → s.gate.isOpen = true →
      ∃ t, exec (.supplyMeasurement v) s = .next t ∧ DrivesSwitchedOff s t ∧ t.link = ended.link ∧
        { t.mgmt with flags := s.mgmt.flags } = { s.mgmt with executing := none }) ∧
    (∀ src first timeout, s.timing.sources.get src = .alive timeout → SelectionInv s → s.gate.isOpen = true →
      (src = .a → s.timing.sources.b = .silent) → (src = .b → s.timing.sources.a = .silent) →
      s.tables.commitPending = false → s.engine.pendingProgramme = none →
      ∃ t, exec (.silenceTimerExpiry src first) s = .next t ∧ DrivesSwitchedOff s t ∧ t.link = ended.link ∧
        { t.mgmt with flags := s.mgmt.flags } = { s.mgmt with executing := none }) ∧
    (∀ y, s.engine.computing = some y → y.hold = false → (y.bank.isStaggered = false ∨ c = .fl) →
      ∃ t, exec .computationCompletion s = .next t ∧
        let i := clampNat (s.tables.active.iMin (axleOf c)) (s.tables.active.iMax (axleOf c))
          (t.engine.results.get c).target
        ((y.bank.isStaggered = false → ArbiterLaws s) → (i : Int) - held < step →
          (t.corner c).state = .hold ∧ (t.corner c).target = i ∧
          t.monitorOf c = (if i = held then s.monitorOf c else { settling s with test := some x }) ∧
          t.mgmt.executing = some r) ∧
        (step ≤ (i : Int) - held →
          let targets := PerCorner.ofFn fun e => (t.engine.results.get e).target
          let boosted := (t.corner c).state = .boost s.tables.active.boostTimeout ∧
            t.monitorOf c = { s.monitorOf c with deviation := 0, test := none }
          let waits := (t.corner c).state = .wait held ∧ t.monitorOf c = settling s
          (boosted ∨ waits) ∧
          (y.bank.isStaggered = true → (s.drive.slots.length < 2 → boosted) ∧ (2 ≤ s.drive.slots.length → waits)) ∧
          (y.bank.isStaggered = false → ArbiterLaws s →
            (c ∈ grantedRequests targets s → boosted) ∧ (c ∈ leftRequests targets s → waits) ∧
              c ∈ grantedRequests targets s ++ leftRequests targets s) ∧
          t.mgmt.executing = none ∧
          (y.number.toNat % (y.bank.reportDivider + 1) ≠ 0 → t.link = ended.link) ∧
          (y.number.toNat % (y.bank.reportDivider + 1) = 0 → ∃ w : Word,
            (∀ f : Flag, f.isSet w = if f = .insertLost then f.isSet ended.mgmt.flags else f.isSet t.mgmt.flags) ∧
            t.link = (offerFrame 2 s.timing.reportPort (reportOf s t y w) ended).link)))

/-- SUPPLY_MEASUREMENT: the sample is kept. While ACTIVE is valid, LOW and SUPPLY_LOW follow V_low with 300 mV of
hysteresis; below V_cut SUPPLY_CUT is set and an OPEN gate closes with that cause, and with no monitor test running
every driven corner goes to OFF at duty 0, its target kept, its output switched off and settling, the slots free, the
pending list empty and the staggered updates cancelled (R126); with the gate still OPEN every held corner's duty is
formed anew with the sample and nothing else of the drive changes. While ACTIVE is not valid, the gate then being
CLOSED, nothing but the sample changes (R110, R139, R140, R141). -/
def Obligations.SupplySamplesJudgeLowAndCut : Prop :=
  (∀ (v : Nat) (s : State), s.resetInProgress = false → v ≤ 20000 → s.tables.activeValid = true →
     ∃ t, exec (.supplyMeasurement v) s = .next t ∧
       t.supply.sample = v ∧
       (v < s.tables.active.vLow → t.supply.low = true) ∧
       (s.tables.active.vLow ≤ v → v < s.tables.active.vLow + 300 → t.supply.low = s.supply.low) ∧
       (s.tables.active.vLow + 300 ≤ v → t.supply.low = false) ∧
       Flag.supplyLow.isSet t.mgmt.flags = (Flag.supplyLow.isSet s.mgmt.flags || decide (v < s.tables.active.vLow)) ∧
       Flag.supplyCut.isSet t.mgmt.flags = (Flag.supplyCut.isSet s.mgmt.flags || decide (v < s.tables.active.vCut)) ∧
       OtherFlagsKept s.mgmt.flags t.mgmt.flags [.supplyLow, .supplyCut, .insertLost] ∧
       t.gate = (if v < s.tables.active.vCut ∧ s.gate.isOpen = true then { isOpen := false, cause := .supplyCut }
         else s.gate) ∧
       t.tables = s.tables ∧ t.timing = s.timing ∧ t.engine = s.engine ∧ t.capture = s.capture ∧
       (s.tables.active.vCut ≤ v → s.gate.isOpen = true →
         t.monitor = s.monitor ∧ t.link = s.link ∧ { t.drive with corners := s.drive.corners } = s.drive ∧
         ∀ c, ((s.corner c).state.isHeld = true → 0 < v →
             t.corner c = { s.corner c with
               duty := min 980 (roundHalfUp ((s.corner c).target * s.tables.active.resistance c) v) }) ∧
           ((s.corner c).state.isHeld = false → t.corner c = s.corner c)) ∧
       (v < s.tables.active.vCut → s.gate.isOpen = true → NoTest s →
         DrivesSwitchedOff s t ∧ t.link = s.link ∧ t.mgmt.executing = s.mgmt.executing) ∧
       (s.gate.isOpen = false → t.drive = s.drive ∧ t.monitor = s.monitor ∧ t.link = s.link)) ∧
  (∀ (v : Nat) (s : State), s.resetInProgress = false → v ≤ 20000 → s.tables.activeValid = false →
    s.gate.isOpen = false →
    exec (.supplyMeasurement v) s = .next { s with supply := { s.supply with sample := v } })

/-! ### Requests -/

/-- A consumed REQUEST: with no payload it is only counted; any command but ABORT joins the tail of the queue below four
requests, and is answered BUSY with its tag at four, whatever its quiet flag (R177). -/
def Obligations.RequestsQueueOrAreBusy : Prop :=
  ∀ (p : Port) (ws : List Word) (d w o : Bool) (s : State), s.resetInProgress = false →
    passesCheck ws d w = true → wellFormatted ws = true → headerKind (frameHeader ws) = 2#3 →
    headerIdent (frameHeader ws) = s.link.nodeAddress.toNat →
    let counted := recount s p
      { (s.port p).counters with
        received := (s.port p).counters.received + 1, consumed := (s.port p).counters.consumed + 1 }
    (framePayload ws = [] → exec (.receptionCompletion p ws d w o) s = .next counted) ∧
    ∀ x ops, framePayload ws = x :: ops → (x.extractLsb' 0 7).toNat ≠ 13 →
      let r : Request :=
        { tag := x.extractLsb' 8 8, quiet := x.getLsbD 7, command := x.extractLsb' 0 7, operands := ops, port := p }
      (s.mgmt.queue.length + s.mgmt.executing.isSome.toNat < 4 →
        exec (.receptionCompletion p ws d w o) s = .next
          { counted with mgmt := { s.mgmt with queue := s.mgmt.queue ++ [r] } }) ∧
      (4 ≤ s.mgmt.queue.length + s.mgmt.executing.isSome.toNat →
        exec (.receptionCompletion p ws d w o) s = .next
          (offerFrame 4 p (replyFrame s.link.nodeAddress r.tag .busy []) counted))

/-- ABORT empties the queue, cancels the request in execution with its owner's waiting state and no reply, and is
answered OK, unless quiet, with the number removed and the cancelled request's tag, or 65535 (R56, R138, R161,
R182). -/
def Obligations.AbortEmptiesTheQueue : Prop :=
  ∀ (p : Port) (ws : List Word) (d w o : Bool) (s : State) (x : Word) (ops : List Word), s.resetInProgress = false →
    RequestInv s → passesCheck ws d w = true → wellFormatted ws = true → headerKind (frameHeader ws) = 2#3 →
    headerIdent (frameHeader ws) = s.link.nodeAddress.toNat → framePayload ws = x :: ops →
    (x.extractLsb' 0 7).toNat = 13 →
    let r : Request := { tag := x.extractLsb' 8 8, quiet := x.getLsbD 7, command := 13#7, operands := ops, port := p }
    let tag : Word :=
      match s.mgmt.executing with
      | none => 65535#16
      | some z => z.tag.setWidth 16
    ∃ t counted, exec (.receptionCompletion p ws d w o) s = .next t ∧
      counted = recount s p
        { (s.port p).counters with
          received := (s.port p).counters.received + 1, consumed := (s.port p).counters.consumed + 1 } ∧
      t.link = (answer r .ok [natWord s.mgmt.queue.length, tag] counted).link ∧
      t.mgmt.flags = (answer r .ok [natWord s.mgmt.queue.length, tag] counted).mgmt.flags ∧
      t.mgmt.queue = [] ∧ t.mgmt.executing = none ∧ t.mgmt.captures = s.mgmt.captures ∧
      t.tables = { s.tables with commitPending := false } ∧
      t.engine = { s.engine with pendingProgramme := none } ∧
      (∀ c, t.monitorOf c =
        if (s.monitorOf c).test.isSome then { s.monitorOf c with deviation := 0, test := none } else s.monitorOf c) ∧
      t.drive = s.drive ∧ t.timing = s.timing ∧ t.capture = s.capture ∧ t.supply = s.supply ∧ t.gate = s.gate

/-- NOP is answered OK with its operand words; nothing else changes (R181). UNKNOWN_COMMAND: a request whose command is
none of the thirteen is answered INVALID, without effect (R179). -/
def Obligations.NopEchoesAndUnknownCommandsAreInvalid : Prop :=
  (∀ (s : State) (r : Request) (rest : List Request), AtExecution s r rest codeNop →
     exec .nop s = .next (answer r .ok r.operands (leaveQueue s rest))) ∧
  (∀ (s : State) (r : Request) (rest : List Request), s.resetInProgress = false → s.mgmt.executing = none →
     s.mgmt.queue = r :: rest → 12 < r.command.toNat →
     exec .unknownCommand s = .next (answer r .invalid [] (leaveQueue s rest)))

/-- The tables are numbered T0 to T5, a number above 5 names none, and writing a table writes that one alone (R148,
R151). LOAD writes its words into the named table of STAGED from the offset on, and nothing else; a table above 5, no
words, or a span beyond the table's end make it INVALID with nothing written (R151). No COMMIT is pending. READ_TABLE
answers the words of the span as they stand; a bank, table, count or span outside the ranges makes it INVALID; it
changes nothing (R152). -/
def Obligations.LoadAndReadTableKeepToTheirSpans : Prop :=
  (∀ b : Bank, [b.table 0, b.table 1, b.table 2, b.table 3, b.table 4, b.table 5] =
       [some b.t0, some b.t1, some b.t2, some b.t3, some b.t4, some b.t5] ∧
     ∀ n, (6 ≤ n → b.table n = none) ∧
       ∀ k t, n ≤ 5 → (b.setTable n t).table k = if k = n then some t else b.table k) ∧
  (∀ (s : State) (r : Request) (rest : List Request), AtExecution s r rest codeLoad →
     (r.operands.length ≤ 1 → exec .load s = .next (answer r .invalid [] (leaveQueue s rest))) ∧
     ∀ w ws, r.operands = w :: ws → ws ≠ [] →
       let offset := w.toNat % 256
       (s.tables.staged.table (w.toNat / 8192) = none →
         exec .load s = .next (answer r .invalid [] (leaveQueue s rest))) ∧
       ∀ old, s.tables.staged.table (w.toNat / 8192) = some old →
         (old.length < offset + ws.length → exec .load s = .next (answer r .invalid [] (leaveQueue s rest))) ∧
         (offset + ws.length ≤ old.length → s.tables.commitPending = false → ∃ new : List Word,
           new.length = old.length ∧
           (∀ j, new[j]? = if offset ≤ j ∧ j < offset + ws.length then ws[j - offset]? else old[j]?) ∧
           exec .load s = .next (answer r .ok []
             { leaveQueue s rest with
               tables := { s.tables with staged := s.tables.staged.setTable (w.toNat / 8192) new } }))) ∧
  (∀ (s : State) (r : Request) (rest : List Request), AtExecution s r rest codeReadTable →
     (r.operands.length < 4 → exec .readTable s = .next (answer r .invalid [] (leaveQueue s rest))) ∧
     ∀ b n o k more, r.operands = b :: n :: o :: k :: more →
       let bad := exec .readTable s = .next (answer r .invalid [] (leaveQueue s rest))
       (2 ≤ b.toNat → bad) ∧ (6 ≤ n.toNat → bad) ∧ (k = 0#16 → bad) ∧ (8 ≤ k.toNat → bad) ∧
       ∀ words, b.toNat ≤ 1 → (if b = 0#16 then s.tables.active else s.tables.staged).table n.toNat = some words →
         (words.length < o.toNat + k.toNat → bad) ∧
         (1 ≤ k.toNat → k.toNat ≤ 7 → o.toNat + k.toNat ≤ words.length → ∃ got : List Word,
           got.length = k.toNat ∧ (∀ j, j < k.toNat → got[j]? = words[o.toNat + j]?) ∧
           exec .readTable s = .next (answer r .ok got (leaveQueue s rest))))

/-- DISCARD copies all six tables of ACTIVE into STAGED and is answered OK (R153). No COMMIT is pending. While
commit-pending is set, no step but a power-on reset writes into STAGED (R154). -/
def Obligations.DiscardAndTheFrozenStagedBank : Prop :=
  (∀ (s : State) (r : Request) (rest : List Request), AtExecution s r rest codeDiscard → s.tables.commitPending = false →
     exec .discard s = .next (answer r .ok []
       { leaveQueue s rest with tables := { s.tables with staged := s.tables.active } })) ∧
  (∀ (i : Instr) (s t : State), s.tables.commitPending = true → i ≠ .powerOnReset → exec i s = .next t →
     t.tables.staged = s.tables.staged)

/-- COMMIT: REJECTED with the table and offset at which validation stops, nothing else changed; validated with no source
selected it swaps at once and is answered OK; validated with one it sets commit-pending and stays in execution (R155,
R158). -/
def Obligations.CommitIsRejectedSwapsOrWaits : Prop :=
  ∀ (s : State) (r : Request) (rest : List Request), AtExecution s r rest codeCommit →
    (∀ n o, validate s.tables.staged s.tables.active s.gate.isOpen = some (n, o) →
      exec .commit s = .next (answer r .rejected [natWord n, natWord o] (leaveQueue s rest))) ∧
    (validate s.tables.staged s.tables.active s.gate.isOpen = none →
      (s.timing.selected = none →
        exec .commit s = .next (answer r .ok [] (performSwap (leaveQueue s rest)))) ∧
      (∀ src, s.timing.selected = some src →
        exec .commit s = .next
          { s with
            mgmt := { s.mgmt with executing := some r, queue := rest }
            tables := { s.tables with commitPending := true } }))

/-- Every field of T1 to T5 lies at its word offset (R149, R150). A bank that passes validation has every field in its
range, the update order 0 or 1, the spare word 0 and bits 14..9 of a MAPPED row's first word 0, and its relations
hold (R149, R150, R156, R194). -/
def Obligations.ValidatedBanksMeetTheirRanges : Prop :=
  (∀ (b : Bank) (t : List Word) (o : Nat), wordAt t o = (t.getD o 0#16).toNat ∧ ControlFields b ∧ MapFields b ∧
     DriveFields b) ∧
  (∀ b : Bank, b.validated →
     1000 ≤ b.tUs ∧ b.tUs ≤ 5000 ∧ 2 ≤ b.staleLimit ∧ b.staleLimit ≤ 16 ∧ 4 ≤ b.leakShift ∧ b.leakShift ≤ 12 ∧
     1 ≤ b.identA ∧ b.identA ≤ 511 ∧ b.identB ≤ 511 ∧ (b.identB = 0 ∨ b.identB ≠ b.identA) ∧
     2 ≤ b.silenceTimeout ∧ b.silenceTimeout ≤ 50 ∧ wordAt b.t1 7 ≤ 1 ∧ wordAt b.t4 19 = 0 ∧
     (∀ g : Signal, (b.t0.getD (4 * g.index) 0#16).getLsbD 15 = true →
       (b.t0.getD (4 * g.index) 0#16).extractLsb' 9 6 = 0#6) ∧
     (∀ g, b.row g = .unmapped ∨ ∃ i k gain offset, b.row g = .mapped i k gain offset ∧ i ≤ 511 ∧ k ≤ 7) ∧
     (∀ p j, j < 8 → b.schedule p j 0 ≤ 9000 ∧ b.schedule p j 1 ≤ 20000 ∧ b.schedule p j 2 ≤ 20000 ∧
       b.schedule p j 3 ≤ 12000) ∧
     (∀ p j, j < 7 → b.schedule p j 0 < b.schedule p (j + 1) 0) ∧
     (∀ x i, i < 8 → b.velocityPoint x i ≤ 2000 ∧ b.forcePoint x i ≤ 12000) ∧
     (∀ x i, i < 7 → b.velocityPoint x i < b.velocityPoint x (i + 1) ∧ b.forcePoint x i < b.forcePoint x (i + 1)) ∧
     (∀ x i j, i < 8 → j < 8 → b.mapCurrent x i j ≤ 2000) ∧
     (∀ c, 1000 ≤ b.resistance c ∧ b.resistance c ≤ 20000) ∧
     (∀ x, b.iMin x ≤ b.iFallback x ∧ b.iFallback x ≤ b.iMax x ∧ b.iMax x ≤ 2000) ∧
     50 ≤ b.pwmPeriod ∧ b.pwmPeriod ≤ 1000 ∧ 50 ≤ b.boostStep ∧ b.boostStep ≤ 1000 ∧ 10 ≤ b.boostBand ∧
     b.boostBand ≤ 200 ∧ 1 ≤ b.boostTimeout ∧ b.boostTimeout ≤ 20 ∧ 20 ≤ b.tolerance ∧ b.tolerance ≤ 500 ∧
     2 ≤ b.settleCount ∧ b.settleCount ≤ 32 ∧ 2 ≤ b.faultCount ∧ b.faultCount ≤ 16 ∧ 8000 ≤ b.vLow ∧ b.vLow ≤ 12000 ∧
     6000 ≤ b.vCut ∧ b.vCut + 500 ≤ b.vLow ∧
     b.previewEnable ≤ 1 ∧ 50 ≤ b.trigger ∧ b.trigger ≤ 1500 ∧ 2000 ≤ b.wheelbase ∧ b.wheelbase ≤ 3800 ∧
     100 ≤ b.minimumSpeed ∧ b.minimumSpeed ≤ 3000 ∧
     (∀ i, i < 4 → b.bandBound i ≤ 2000 ∧ b.bandScale i ≤ 256 ∧ 1 ≤ b.bandHold i ∧ b.bandHold i ≤ 255) ∧
     ∀ i, i < 3 → b.bandBound i < b.bandBound (i + 1))

/-- Validation passes exactly when every word of the six tables passes the checks made at it, and otherwise it gives the
first word, in table order and ascending offset, at which a check fails; the checks are those of R149, R150, R156 and
R194, with both mark idents held to those of ACTIVE while the gate is OPEN. A COMMIT whose STAGED bank has such a
word is answered REJECTED with its table and offset, and nothing else changes (R155, R156). -/
def Obligations.ValidationStopsAtTheFirstFailingWord : Prop :=
  (∀ (b a : Bank) (gateOpen : Bool),
     validate b a gateOpen = none ↔ ∀ n o, o < tableSize n → WordPasses b a gateOpen n o) ∧
  (∀ (b a : Bank) (gateOpen : Bool) (n o : Nat),
     validate b a gateOpen = some (n, o) ↔
       o < tableSize n ∧ ¬ WordPasses b a gateOpen n o ∧ EarlierWordsPass b a gateOpen n o) ∧
  (∀ (s : State) (r : Request) (rest : List Request) (n o : Nat), AtExecution s r rest codeCommit →
     o < tableSize n → ¬ WordPasses s.tables.staged s.tables.active s.gate.isOpen n o →
     EarlierWordsPass s.tables.staged s.tables.active s.gate.isOpen n o →
     exec .commit s = .next (answer r .rejected [natWord n, natWord o] (leaveQueue s rest)))

/-- A swap at a COMMIT with the gate CLOSED and no source selected: ACTIVE takes STAGED, STAGED stays, ACTIVE-valid is
set and commit-pending clear; each signal whose row changed takes age 255; a changed T4 clamps every target and every
staggered target into the new range; a changed V_low or V_cut judges LOW and the cut again on the latest sample with
SUPPLY_LOW and SUPPLY_CUT; a lowered settle count lowers settle remaining (log entry 14); a changed T5 enable or
wheelbase flushes the preview queue, or owes the flush while a cycle computes (R34, R90, R127, R142, R157). -/
def Obligations.SwapsApplyTheirSideEffects : Prop :=
  ∀ (s : State) (r : Request) (rest : List Request), AtExecution s r rest codeCommit → DriveInv s →
    s.gate.isOpen = false → s.timing.selected = none → SelectionInv s →
    validate s.tables.staged s.tables.active false = none →
    ∃ t, exec .commit s = .next t ∧
      t.tables = { active := s.tables.staged, staged := s.tables.staged, activeValid := true, commitPending := false } ∧
      (∀ g, t.capture.live.get g =
        { s.capture.live.get g with
          age := if s.tables.row g = s.tables.staged.row g then (s.capture.live.get g).age else 255 }) ∧
      t.timing = s.timing ∧ t.gate = s.gate ∧
      SupplyJudgedAgain s t s.tables.active s.tables.staged ∧
      OtherFlagsKept s.mgmt.flags t.mgmt.flags [.supplyLow, .supplyCut, .insertLost] ∧
      (∀ c, t.monitorOf c = settleLowered s.tables.active s.tables.staged (s.monitorOf c)) ∧
      (s.tables.active.t4 = s.tables.staged.t4 → t.drive = s.drive) ∧
      (s.tables.active.t4 ≠ s.tables.staged.t4 → ∀ c,
        t.corner c = { s.corner c with target := s.tables.staged.clampCurrent c (s.corner c).target } ∧
        t.drive.staggered.get c = (s.drive.staggered.get c).map fun h =>
          { h with target := s.tables.staged.clampCurrent c h.target }) ∧
      (s.tables.active.previewEnable = s.tables.staged.previewEnable →
        s.tables.active.wheelbase = s.tables.staged.wheelbase → t.engine = s.engine) ∧
      (s.tables.active.previewEnable ≠ s.tables.staged.previewEnable ∨
          s.tables.active.wheelbase ≠ s.tables.staged.wheelbase →
        (s.engine.computing = none → t.engine = { s.engine with queue := [], sides := ⟨.armed, .armed⟩ }) ∧
        (s.engine.computing ≠ none → t.engine = { s.engine with flushOwed := true }))

/-- A served mark of the selected source with a COMMIT pending performs the swap before the snapshot, answers the COMMIT
OK and starts a hold cycle on the new bank, with k, MARK_GAP and the ageing as without a COMMIT (R9, R10, R30); whether
that reply is offered before or after the frame is placed in the forward FIFO is the operand readFirst (the model's
choice, log entry 7); no monitor test runs and no programme is pending (R13, R159). A source whose ident changed becomes
SILENT and the selection is re-evaluated: to the other source with the effects of R6, the baseline then cleared and the
hold-cycle request flag left set (the model's reading, log entry 19), or to NONE with MARKS_SILENT (R4, R5, R6, R7). A
changed row is STALE in that very cycle (R34, R159), a changed T5 enable or wheelbase has flushed the preview queue
(R13, R90). The latest sample is judged again (R142). With the gate CLOSED, or OPEN with the idents unchanged and no
cut, the gate stays, a changed T4 clamps the targets and forms the held corners' duties anew, and a held corner whose
target moved settles (R127); a swap that lowers the settle count, and no other, lowers settle remaining (the model's
reading of R142 and R157, log entry 14); an OPEN gate closes when the new V_cut lies above the sample, with cause
SUPPLY_CUT (R126, R142). -/
def Obligations.SwapsAtServedMarksActOnEveryBlock : Prop :=
  ∀ (p : Port) (ws : List Word) (d w o : Bool) (s : State) (src : Source) (timeout : Nat) (seq : Word)
    (more : List Word) (r : Request),
    s.resetInProgress = false → passesCheck ws d w = true → wellFormatted ws = true →
    headerKind (frameHeader ws) = 1#3 → markSource s.tables (headerIdent (frameHeader ws)) = some src →
    framePayload ws = seq :: more → s.timing.sources.get src = .alive timeout → s.timing.selected = some src →
    s.timing.baseline ≠ some seq → s.engine.computing = none → s.tables.commitPending = true →
    s.mgmt.executing = some r → s.engine.pendingProgramme = none → NoTest s →
    let a := s.tables.active
    let b := s.tables.staged
    let restarted := s.timing.sources.set src (.alive a.silenceTimeout)
    let sources : PerSource SourceState :=
      { a := if a.identA = b.identA then restarted.a else .silent
        b := if a.identB = b.identB then restarted.b else .silent }
    let moved := decide (selectionOf sources ≠ some src) && (selectionOf sources).isSome
    let lost := decide (selectionOf sources = none)
    let cut := decide (a.vLow ≠ b.vLow ∨ a.vCut ≠ b.vCut) && decide (s.supply.sample < b.vCut)
    let sameIdents := a.identA = b.identA ∧ a.identB = b.identB
    ∃ t y gap, exec (.receptionCompletion p ws d w o) s = .next t ∧
      t.tables = { active := b, staged := b, activeValid := true, commitPending := false } ∧
      t.timing = { s.timing with
        sources := sources
        selected := selectionOf sources
        baseline := if moved then none else some seq
        holdRequest := moved
        served := s.timing.served + 1
        reportPort := p } ∧
      Flag.sourceSwitch.isSet t.mgmt.flags = (Flag.sourceSwitch.isSet s.mgmt.flags || moved) ∧
      Flag.marksSilent.isSet t.mgmt.flags = (Flag.marksSilent.isSet s.mgmt.flags || lost) ∧
      { t.mgmt with flags := s.mgmt.flags } = { s.mgmt with executing := none } ∧
      t.link = linkAnswered s p ws o r ∧
      ServedBy s.timing.baseline seq y.k gap ∧
      Flag.markGap.isSet t.mgmt.flags = (Flag.markGap.isSet s.mgmt.flags || gap) ∧
      Flag.fullDrops.isSet t.mgmt.flags = (Flag.fullDrops.isSet s.mgmt.flags || !hasRoom s p) ∧
      Flag.signalStale.isSet t.mgmt.flags =
        (Flag.signalStale.isSet s.mgmt.flags || signals.any fun g => (y.snapshot.get g).stale) ∧
      OtherFlagsKept s.mgmt.flags t.mgmt.flags
        [.markGap, .sourceSwitch, .marksSilent, .signalStale, .fullDrops, .supplyLow, .supplyCut, .insertLost] ∧
      t.engine.computing = some y ∧ y.bank = b ∧ y.programme = s.engine.programme ∧ y.hold = true ∧ y.seq = seq ∧
      y.number = s.timing.served + 1 ∧
      (∀ g, (y.snapshot.get g).value = (s.capture.live.get g).value ∧
        (y.snapshot.get g).age = (if a.row g = b.row g then (s.capture.live.get g).age else 255) ∧
        (a.row g ≠ b.row g → (y.snapshot.get g).stale = true) ∧
        t.capture.live.get g =
          { s.capture.live.get g with age := min 255 ((if a.row g = b.row g then (s.capture.live.get g).age else 255) + y.k) }) ∧
      { t.engine with computing := none } =
        (if a.previewEnable = b.previewEnable ∧ a.wheelbase = b.wheelbase then s.engine
          else { s.engine with queue := [], sides := ⟨.armed, .armed⟩ }) ∧
      SupplyJudgedAgain s t a b ∧
      (s.gate.isOpen = false → t.gate = s.gate ∧ (DriveInv s → RecordsSwapped s t a b)) ∧
      (s.gate.isOpen = true → sameIdents → cut = false → t.gate = s.gate ∧ RecordsSwapped s t a b) ∧
      (s.gate.isOpen = true → sameIdents → cut = true →
        t.gate = { isOpen := false, cause := .supplyCut } ∧ t.drive.slots = [] ∧ t.drive.waiting = [] ∧ ∀ c,
          let i := clampNat (b.iMin (axleOf c)) (b.iMax (axleOf c)) (s.corner c).target
          t.drive.staggered.get c = none ∧
          ((s.corner c).state.isDriven = true →
            t.corner c = { s.corner c with state := .off, target := i, duty := 0, outputDuty := 0 } ∧
            t.monitorOf c = { settle := b.settleCount, deviation := 0, stuck := 0, test := none }) ∧
          ((s.corner c).state.isDriven = false →
            t.corner c = { s.corner c with target := i } ∧ t.monitorOf c = settleLowered a b (s.monitorOf c)))

/-- SET_PROGRAMME: INVALID for a code that names none; OK at once when it is current; OK at once, and current, with no
source selected; pending, without a reply, with one (R53). -/
def Obligations.SetProgrammeTakesItsCase : Prop :=
  ∀ (s : State) (r : Request) (rest : List Request), AtExecution s r rest codeSetProgramme →
    (r.operands = [] → exec .setProgramme s = .next (answer r .invalid [] (leaveQueue s rest))) ∧
    ∀ w ws, r.operands = w :: ws →
      (3 ≤ w.toNat → exec .setProgramme s = .next (answer r .invalid [] (leaveQueue s rest))) ∧
      ∀ p, (w, p) ∈ [(0#16, Programme.touring), (1#16, .balanced), (2#16, .firm)] →
        (p = s.engine.programme → exec .setProgramme s = .next (answer r .ok [] (leaveQueue s rest))) ∧
        (p ≠ s.engine.programme → s.timing.selected = none →
          exec .setProgramme s = .next (answer r .ok []
            { leaveQueue s rest with engine := { s.engine with programme := p } })) ∧
        (p ≠ s.engine.programme → s.timing.selected ≠ none →
          exec .setProgramme s = .next
            { s with
              mgmt := { s.mgmt with executing := some r, queue := rest }
              engine := { s.engine with pendingProgramme := some p } })

/-- ENABLE_DRIVE: OK without a change with the gate OPEN; else REFUSED with the reason of the first failing condition, or
the gate opens with its cause kept and each OFF corner goes to HOLD at its axle's fallback current and feed-forward
duty, settling; FAULT corners stay (R125, R144). DISABLE_DRIVE: an OPEN gate closes with cause COMMAND: every driven
corner goes to OFF at duty 0 with its target kept and its output switched off, settling; FAULT corners stay; slots
free, list empty, staggered updates cancelled. A CLOSED gate and its cause stay. Either way it is answered OK (R126,
R145). -/
def Obligations.EnableAndDisableDriveMoveTheGate : Prop :=
  (∀ (s : State) (r : Request) (rest : List Request), AtExecution s r rest codeEnableDrive → NoTest s →
     let refusedFor := fun reason : Word => exec .enableDrive s = .next (answer r .refused [reason] (leaveQueue s rest))
     (s.gate.isOpen = true → exec .enableDrive s = .next (answer r .ok [] (leaveQueue s rest))) ∧
     (s.gate.isOpen = false →
       (s.tables.activeValid = false → refusedFor 2#16) ∧
       (s.tables.activeValid = true → s.timing.selected = none → refusedFor 3#16) ∧
       (s.tables.activeValid = true → s.timing.selected ≠ none → s.supply.sample < s.tables.active.vLow →
         refusedFor 4#16) ∧
       (s.tables.activeValid = true → s.timing.selected ≠ none → s.tables.active.vLow ≤ s.supply.sample →
         ∃ t, exec .enableDrive s = .next t ∧ t.gate = { s.gate with isOpen := true } ∧
           (∀ c, (s.corner c).state = .off →
             t.corner c =
               { s.corner c with
                 state := .hold
                 target := s.tables.active.iFallback (axleOf c)
                 duty := feedForward s c (s.tables.active.iFallback (axleOf c)) } ∧
             t.monitorOf c = settling s) ∧
           (∀ c, (s.corner c).state ≠ .off → t.corner c = s.corner c ∧ t.monitorOf c = s.monitorOf c) ∧
           { t.drive with corners := s.drive.corners } = s.drive ∧
           t.link = (answer r .ok [] (leaveQueue s rest)).link ∧ t.mgmt = (answer r .ok [] (leaveQueue s rest)).mgmt ∧
           t.tables = s.tables ∧ t.timing = s.timing ∧ t.engine = s.engine ∧ t.capture = s.capture ∧
           t.supply = s.supply))) ∧
  (∀ (s : State) (r : Request) (rest : List Request), AtExecution s r rest codeDisableDrive → NoTest s →
     (s.gate.isOpen = false → exec .disableDrive s = .next (answer r .ok [] (leaveQueue s rest))) ∧
     (s.gate.isOpen = true → ∃ t, exec .disableDrive s = .next t ∧
       t.gate = { isOpen := false, cause := .command } ∧
       DrivesSwitchedOff s t ∧
       t.link = (answer r .ok [] (leaveQueue s rest)).link ∧ t.mgmt = (answer r .ok [] (leaveQueue s rest)).mgmt ∧
       t.tables = s.tables ∧ t.timing = s.timing ∧ t.engine = s.engine ∧ t.capture = s.capture ∧ t.supply = s.supply))

/-- MONITOR_TEST: INVALID for codes outside the lists; REFUSED NOT_HOLD or NOT_SETTLED; else started with both counts 0
and kept in execution (R136). -/
def Obligations.MonitorTestStartsInSettledHold : Prop :=
  ∀ (s : State) (r : Request) (rest : List Request), AtExecution s r rest codeMonitorTest →
    (r.operands.length < 2 → exec .monitorTest s = .next (answer r .invalid [] (leaveQueue s rest))) ∧
    ∀ a b more, r.operands = a :: b :: more →
      (4 ≤ a.toNat ∨ 2 ≤ b.toNat → exec .monitorTest s = .next (answer r .invalid [] (leaveQueue s rest))) ∧
      ∀ c d, a.toNat = cornerCode c → (b, d) ∈ [(0#16, TestDirection.high), (1#16, .low)] →
        ((s.corner c).state ≠ .hold →
          exec .monitorTest s = .next (answer r .refused [5#16] (leaveQueue s rest))) ∧
        ((s.corner c).state = .hold → 0 < (s.monitorOf c).settle →
          exec .monitorTest s = .next (answer r .refused [6#16] (leaveQueue s rest))) ∧
        ((s.corner c).state = .hold → (s.monitorOf c).settle = 0 →
          exec .monitorTest s = .next
            { s with
              mgmt := { s.mgmt with executing := some r, queue := rest }
              monitor := s.monitor.set c
                { s.monitorOf c with deviation := 0, test := some { direction := d, judged := 0 } } })

/-- CLEAR_FAULTS: each named corner's deviation, stuck and boost-timeout counts become 0; one in FAULT goes to HOLD at
the fallback current with the gate OPEN, to OFF with its target kept with the gate CLOSED, settling, its cause kept;
corners not named stay as they are (R135). -/
def Obligations.ClearFaultsActsOnTheNamedCorners : Prop :=
  ∀ (s : State) (r : Request) (rest : List Request), AtExecution s r rest codeClearFaults → NoTest s →
    (r.operands = [] → exec .clearFaults s = .next (answer r .invalid [] (leaveQueue s rest))) ∧
    ∀ w ws, r.operands = w :: ws → ∃ t, exec .clearFaults s = .next t ∧
      (∀ c, w.getLsbD (cornerCode c) = false → t.corner c = s.corner c ∧ t.monitorOf c = s.monitorOf c) ∧
      (∀ c, w.getLsbD (cornerCode c) = true →
        ((s.corner c).state ≠ .fault → t.corner c = { s.corner c with timeouts := 0 } ∧
          t.monitorOf c = { s.monitorOf c with deviation := 0, stuck := 0 }) ∧
        ((s.corner c).state = .fault → s.gate.isOpen = true →
          t.corner c =
            { s.corner c with
              state := .hold
              target := s.tables.active.iFallback (axleOf c)
              duty := feedForward s c (s.tables.active.iFallback (axleOf c))
              timeouts := 0 } ∧
          t.monitorOf c = settling s) ∧
        ((s.corner c).state = .fault → s.gate.isOpen = false →
          t.corner c = { s.corner c with state := .off, duty := 0, outputDuty := 0, timeouts := 0 } ∧
          t.monitorOf c = settling s)) ∧
      { t.drive with corners := s.drive.corners } = s.drive ∧
      t.link = (answer r .ok [] (leaveQueue s rest)).link ∧ t.mgmt = (answer r .ok [] (leaveQueue s rest)).mgmt ∧
      t.tables = s.tables ∧ t.timing = s.timing ∧ t.engine = s.engine ∧ t.capture = s.capture ∧
      t.supply = s.supply ∧ t.gate = s.gate

/-- CLEAR_FLAGS clears the flags named, keeps the others, and answers the flag word before and after (R187). -/
def Obligations.ClearFlagsAnswersBeforeAndAfter : Prop :=
  ∀ (s : State) (r : Request) (rest : List Request), AtExecution s r rest codeClearFlags →
    (r.operands = [] → exec .clearFlags s = .next (answer r .invalid [] (leaveQueue s rest))) ∧
    ∀ w ws, r.operands = w :: ws → ∃ after : Word,
      (∀ f : Flag, f.isSet after = (f.isSet s.mgmt.flags && !f.isSet w)) ∧
      exec .clearFlags s = .next (answer r .ok [s.mgmt.flags, after]
        { s with mgmt := { s.mgmt with queue := rest, flags := after } })

/-- READ_STATE changes nothing but its reply, COUNTERS page 0 apart; three operands are needed; a selector above 4 is
INVALID; page 0 of CYCLE answers its seven words bit by bit as R193 lays them out, page 1 the duplicate count, the
programme and the schedule values (R184, R193). READ_STATE CORNERS answers each corner's motion page, drive page and
monitor page, and the supervision page 12, with a pending list of at most two corners; SIGNALS answers a signal's
live store, and an index above 8 or a page above 0 is INVALID; PREVIEW answers the queue's state, the windows, and on
pages 2 and 3 up to three entries from a position on, with their sides, kinds, open flags, stamps and peaks, unused
fields 0; the bits a word does not assign are 0 (R192); a position above 15 there and a page above 3 are INVALID
(R36, R91, R128, R146, R193). -/
def Obligations.ReadStateAnswersItsPages : Prop :=
  (∀ (s : State) (r : Request) (rest : List Request), AtExecution s r rest codeReadState →
     (r.operands.length < 3 → exec .readState s = .next (answer r .invalid [] (leaveQueue s rest))) ∧
     ∀ a b c more, r.operands = a :: b :: c :: more →
       (5 ≤ a.toNat → exec .readState s = .next (answer r .invalid [] (leaveQueue s rest))) ∧
       (a ≠ 4#16 → ∃ x data, exec .readState s = .next (answer r x data (leaveQueue s rest))) ∧
       (a = 3#16 → c.toNat % 256 = 0 → ∃ w : Word,
         exec .readState s = .next (answer r .ok
           [s.mgmt.flags, w, s.timing.baseline.getD 0#16,
             s.timing.served.extractLsb' 16 16, s.timing.served.extractLsb' 0 16,
             s.timing.skipped.extractLsb' 16 16, s.timing.skipped.extractLsb' 0 16] (leaveQueue s rest)) ∧
         (w.getLsbD 0 = true ↔ s.timing.sources.a ≠ .silent) ∧ (w.getLsbD 1 = true ↔ s.timing.sources.b ≠ .silent) ∧
         (w.extractLsb' 2 2).toNat = selectedCode s.timing.selected ∧
         w.getLsbD 4 = s.engine.computing.isSome ∧ w.getLsbD 5 = s.timing.holdRequest ∧
         (w.getLsbD 6 = true ↔ s.timing.reportPort = .port2) ∧ w.getLsbD 7 = s.tables.activeValid ∧
         w.getLsbD 8 = s.timing.baseline.isSome ∧ w.extractLsb' 9 7 = 0#7) ∧
       (a = 3#16 → c.toNat % 256 = 1 → exec .readState s = .next (answer r .ok
         [s.timing.duplicate.extractLsb' 16 16, s.timing.duplicate.extractLsb' 0 16,
           natWord (match s.engine.programme with | .touring => 0 | .balanced => 1 | .firm => 2),
           natWord s.engine.lookupSpeed, natWord s.engine.cSky, natWord s.engine.cBase, natWord s.engine.fMax]
         (leaveQueue s rest))) ∧
       (a = 3#16 → 2 ≤ c.toNat % 256 → exec .readState s = .next (answer r .invalid [] (leaveQueue s rest)))) ∧
  (∀ (s : State) (r : Request) (rest : List Request) (a b c : Word) (more : List Word),
     AtExecution s r rest codeReadState → r.operands = a :: b :: c :: more →
     let answers := fun data => exec .readState s = .next (answer r .ok data (leaveQueue s rest))
     let page := c.toNat % 256
     (a = 0#16 → ∀ k,
       (page = 3 * cornerCode k → ∃ w : Word,
         answers [BitVec.ofInt 16 (s.engine.est.get k).lastVd,
           (BitVec.ofInt 32 (s.engine.est.get k).vbQ).extractLsb' 16 16,
           (BitVec.ofInt 32 (s.engine.est.get k).vbQ).extractLsb' 0 16, w,
           natWord (s.engine.results.get k).fSky, natWord (s.engine.results.get k).fDem] ∧
         w.getLsbD 0 = (s.engine.est.get k).seeded ∧ w.getLsbD 1 = (s.engine.est.get k).lastTravelLost ∧
         w.getLsbD 2 = (s.engine.est.get k).lastSkyLost ∧ w.extractLsb' 3 13 = 0#13) ∧
       (page = 3 * cornerCode k + 1 →
         answers [natWord (match (s.engine.results.get k).source with | .map => 0 | .fallback => 1),
           natWord (s.engine.results.get k).mapCurrent, natWord (s.engine.results.get k).target,
           natWord (match (s.corner k).state with | .off => 0 | .hold => 1 | .wait _ => 2 | .boost _ => 3 | .fault => 4),
           natWord (s.corner k).target, natWord (s.corner k).duty, natWord (s.corner k).measured]) ∧
       (page = 3 * cornerCode k + 2 →
         answers [natWord (match (s.corner k).cause with
             | .none => 0 | .openCoil => 1 | .deviation => 2 | .stuckOn => 3),
           (s.corner k).timeouts.extractLsb' 16 16, (s.corner k).timeouts.extractLsb' 0 16,
           natWord (s.monitorOf k).settle, natWord (s.monitorOf k).deviation, natWord (s.monitorOf k).stuck])) ∧
     (a = 0#16 → page = 12 → s.drive.waiting.length ≤ 2 → ∃ list gate : Word,
       answers [list, natWord (if s.tables.active.isStaggered then 1 else 0), natWord s.supply.sample,
         natWord (if s.supply.low then 1 else 0), gate] ∧
       (list.extractLsb' 13 3).toNat = s.drive.waiting.length ∧ list.extractLsb' 4 9 = 0#9 ∧
       (∀ k, s.drive.waiting[0]? = some k → (list.extractLsb' 2 2).toNat = cornerCode k) ∧
       (∀ k, s.drive.waiting[1]? = some k → (list.extractLsb' 0 2).toNat = cornerCode k) ∧
       gate.getLsbD 15 = s.gate.isOpen ∧ gate.extractLsb' 2 13 = 0#13 ∧
       (gate.extractLsb' 0 2).toNat =
         (match s.gate.cause with | .command => 0 | .supplyCut => 1 | .marksSilent => 2 | .reset => 3)) ∧
     (a = 0#16 → 13 ≤ page → exec .readState s = .next (answer r .invalid [] (leaveQueue s rest))) ∧
     (a = 1#16 → page = 0 →
       (∀ g : Signal, b.toNat = g.index →
         answers [b, natWord (if s.tables.row g = .unmapped then 0 else 1), intWord (s.capture.live.get g).value,
           natWord (s.capture.live.get g).age, natWord (s.capture.live.get g).clamps,
           s.capture.short.extractLsb' 16 16, s.capture.short.extractLsb' 0 16]) ∧
       (9 ≤ b.toNat → exec .readState s = .next (answer r .invalid [] (leaveQueue s rest)))) ∧
     (a = 2#16 → page = 0 → ∃ w : Word,
       answers [natWord s.engine.queue.length, w,
         s.engine.previewFull.extractLsb' 16 16, s.engine.previewFull.extractLsb' 0 16,
         s.engine.odometer.extractLsb' 16 16, s.engine.odometer.extractLsb' 0 16] ∧
       (w.getLsbD 0 = true ↔ s.engine.sides.left = .inEvent) ∧
       (w.getLsbD 1 = true ↔ s.engine.sides.right = .inEvent) ∧
       w.getLsbD 2 = s.engine.previewActive ∧ w.extractLsb' 3 13 = 0#13) ∧
     (a = 2#16 → page = 1 →
       answers [natWord s.engine.queue.length, natWord s.engine.windows.left.remaining,
         natWord s.engine.windows.left.scale, natWord s.engine.windows.right.remaining,
         natWord s.engine.windows.right.scale]) ∧
     (a = 1#16 → 1 ≤ page → exec .readState s = .next (answer r .invalid [] (leaveQueue s rest))) ∧
     (a = 2#16 → page = 2 ∨ page = 3 → 16 ≤ b.toNat →
       exec .readState s = .next (answer r .invalid [] (leaveQueue s rest))) ∧
     (a = 2#16 → 4 ≤ page → exec .readState s = .next (answer r .invalid [] (leaveQueue s rest))) ∧
     (a = 2#16 → b.toNat ≤ 15 →
       let shown := (s.engine.queue.drop b.toNat).take 3
       (page = 2 → s.engine.queue.length ≤ 16 → ∃ w : Word,
         answers (w :: shown.flatMap fun e => [e.stamp.extractLsb' 16 16, e.stamp.extractLsb' 0 16]) ∧
         (w.extractLsb' 0 5).toNat = s.engine.queue.length ∧ w.extractLsb' 5 2 = 0#2 ∧
         ∀ j place, (j, place) ∈ [(0, 13), (1, 10), (2, 7)] →
           (shown[j]? = none → w.extractLsb' place 3 = 0#3) ∧
           (∀ e, shown[j]? = some e →
             (w.getLsbD (place + 2) = true ↔ e.side = .right) ∧ (w.getLsbD (place + 1) = true ↔ e.kind = .dip) ∧
             w.getLsbD place = e.isOpen)) ∧
       (page = 3 →
         answers (natWord s.engine.queue.length ::
           shown.flatMap fun e => [natWord e.peak, e.stamp.extractLsb' 0 16]))))

/-- READ_STATE COUNTERS page 0 copies the named port's nine counters into its capture, clears them when the clear flag is
set, and answers from the capture, the bit its first word does not assign 0 (R192); pages 1 and 2 answer from the
capture and change nothing, and with the clear flag are INVALID; so is a port other than 1 or 2 (R185). -/
def Obligations.CounterPagesReadOneCapture : Prop :=
  ∀ (s : State) (r : Request) (rest : List Request) (b c : Word) (more : List Word),
    AtExecution s r rest codeReadState → r.operands = 4#16 :: b :: c :: more →
    let bad := exec .readState s = .next (answer r .invalid [] (leaveQueue s rest))
    let two := fun x : Count => [x.extractLsb' 16 16, x.extractLsb' 0 16]
    let page := c.toNat % 256
    let clear := c.getLsbD 15
    (b.toNat = 0 ∨ 3 ≤ b.toNat → bad) ∧
    ∀ p, (b, p) ∈ [(1#16, Port.port1), (2#16, Port.port2)] →
      (page = 0 → ∃ t w, exec .readState s = .next (answer r .ok
          (w :: (two (s.port p).counters.received ++ two (s.port p).counters.accepted ++
            two (s.port p).counters.consumed)) t) ∧
        t = (if clear then recount (leaveQueue s rest) p ⟨0, 0, 0, 0, 0, 0, 0, 0, 0⟩ else leaveQueue s rest).mapCapture
          p (s.port p).counters ∧
        ((s.port p).fifo.length ≤ 8 → (s.port p).insert.length ≤ 4 → (s.port p).waitCount ≤ 3 →
          (w.extractLsb' 12 4).toNat = (s.port p).fifo.length ∧ (w.extractLsb' 9 3).toNat = (s.port p).insert.length ∧
          (w.extractLsb' 7 2).toNat = (s.port p).waitCount ∧ w.getLsbD 6 = false ∧
          w.extractLsb' 0 6 = s.link.nodeAddress)) ∧
      (page = 1 ∨ page = 2 → clear = true → bad) ∧
      (page = 1 → clear = false → exec .readState s = .next (answer r .ok
        (two (s.mgmt.captures.get p).check ++ two (s.mgmt.captures.get p).format ++ two (s.mgmt.captures.get p).full)
        (leaveQueue s rest))) ∧
      (page = 2 → clear = false → exec .readState s = .next (answer r .ok
        (two (s.mgmt.captures.get p).sentForwarded ++ two (s.mgmt.captures.get p).sentInserted ++
          two (s.mgmt.captures.get p).insertLost)
        (leaveQueue s rest))) ∧
      (3 ≤ page → bad)

/-- RESET_CONTROL: REFUSED GATE_OPEN, changing nothing, with the gate OPEN; else every block in its reach takes its
RESET_CONTROL value, the rest is kept, the PWM periods in progress among it, and it is answered OK (R21, R22, R37, R51,
R57, R92, R104, R129, R147, R188). -/
def Obligations.ResetControlRestartsTheControlChain : Prop :=
  ∀ (s : State) (r : Request) (rest : List Request), AtExecution s r rest codeResetControl →
    (s.gate.isOpen = true →
      exec .resetControl s = .next (answer r .refused [7#16] (leaveQueue s rest))) ∧
    (s.gate.isOpen = false → ∃ t, exec .resetControl s = .next t ∧
      EngineIsReset t ∧ t.engine.programme = s.engine.programme ∧
      t.timing = { s.timing with baseline := none, holdRequest := true } ∧
      (∀ g, t.capture.live.get g = { s.capture.live.get g with age := 255 }) ∧ t.capture.short = s.capture.short ∧
      DriveIsReset t (fun c => (s.corner c).periodLength) (fun c => (s.corner c).periodEnded) ∧
      MonitorAndGateAreReset t ∧ t.supply = s.supply ∧
      t.tables = s.tables ∧ t.link = (answer r .ok [] (leaveQueue s rest)).link ∧
      t.mgmt = (answer r .ok [] (leaveQueue s rest)).mgmt)

/-! ### Invariants that every step keeps -/

/-- The invariants hold at State.reset. -/
def Obligations.InvariantsHoldAtReset : Prop :=
  TablesInv State.reset ∧ GateInv State.reset ∧ DriveInv State.reset ∧ PeriodInv State.reset ∧ TargetInv State.reset ∧
    QueueInv State.reset ∧ CountersInv State.reset ∧ SelectionInv State.reset ∧ SourcesInv State.reset ∧ RequestInv State.reset ∧ EngineInv State.reset

/-- Every step keeps the banks of their lengths, ACTIVE validated while valid, STAGED validated while a COMMIT is
pending, and every cycle computing on a validated bank. -/
def Obligations.StepsKeepTheBanksValidated : Prop := ∀ s t : State, TablesInv s → step s = .next t → TablesInv t

/-- Every step keeps it that while the gate is OPEN, ACTIVE is valid, a source is selected and the latest sample is at or
above V_cut (R143). -/
def Obligations.StepsKeepTheGateLaw : Prop := ∀ s t : State, GateInv s → step s = .next t → GateInv t

/-- Every step keeps the boost arbiter's two laws, the states a CLOSED gate allows, and the duty of each state (R107,
R109, R115). Every step keeps the four PWM periods of one length, and not all four ended (R108). -/
def Obligations.StepsKeepTheBoostLaws : Prop :=
  (∀ s t : State, DriveInv s → step s = .next t → DriveInv t) ∧
  (∀ s t : State, PeriodInv s → step s = .next t → PeriodInv t)

/-- Every step keeps each driven corner's target in the range of its axle in ACTIVE (R127). -/
def Obligations.StepsKeepTargetsInRange : Prop := ∀ s t : State, TargetInv s → step s = .next t → TargetInv t

/-- Every step keeps the bounds of the FIFOs, insert queues, wait counts and the request queue (R169, R170, R172, R177).
Every step keeps RECEIVED equal to ACCEPTED + CONSUMED + CHECK + FORMAT + FULL, modulo 2^32, among the counters of
each port and among its captured values (R167, R185). -/
def Obligations.StepsKeepTheLinkLaws : Prop :=
  (∀ s t : State, QueueInv s → step s = .next t → QueueInv t) ∧
  (∀ s t : State, CountersInv s → step s = .next t → CountersInv t)

/-- Every step keeps the selected source the function of the two source states that R5 gives. Every step keeps both
sources SILENT while ACTIVE is not valid, and source B while mark ident B is 0 (R1). -/
def Obligations.StepsKeepTheSelection : Prop :=
  (∀ s t : State, SelectionInv s → step s = .next t → SelectionInv t) ∧
  (∀ s t : State, SourcesInv s → step s = .next t → SourcesInv t)

/-- Every step keeps it that a request in execution is a COMMIT, SET_PROGRAMME or MONITOR_TEST whose owner waits, that no
owner waits without one, and that a test runs at one corner at most, in HOLD (R136, R138, R178). -/
def Obligations.StepsKeepWaitingRequestsWithTheirOwners : Prop :=
  ∀ s t : State, RequestInv s → step s = .next t → RequestInv t

/-- Every step keeps the live values and those of a snapshot in their signals' ranges, the ages and clamp counts, the
estimates, the preview queue's length and its entries' peaks of 50 to 2000 mm/s, and the windows in their ranges
(R23, R43, R46, R76, R81). -/
def Obligations.StepsKeepEstimatesInRange : Prop := ∀ s t : State, EngineInv s → step s = .next t → EngineInv t

end
end

