-- ==== Sys2Proof/Laws/State.lean ====
section
/-! SUPPORT. What reading after an update gives: the grouped items, and every field of the state under every update. -/

namespace Sys2Proof.Machine

/-! ### Groups -/

@[simp] theorem PerCorner.get_set_same {α : Type} (p : PerCorner α) (c : Corner) (x : α) : (p.set c x).get c = x := by
  cases c <;> rfl

theorem PerCorner.get_set_ne {α : Type} (p : PerCorner α) {c d : Corner} (x : α) (h : d ≠ c) :
    (p.set c x).get d = p.get d := by
  cases c <;> cases d <;> first | rfl | exact absurd rfl h

theorem PerCorner.get_set {α : Type} (p : PerCorner α) (c d : Corner) (x : α) :
    (p.set c x).get d = if d = c then x else p.get d := by
  cases c <;> cases d <;> rfl

@[simp] theorem PerCorner.get_ofFn {α : Type} (f : Corner → α) (c : Corner) : (PerCorner.ofFn f).get c = f c := by
  cases c <;> rfl

@[simp] theorem PerCorner.get_all {α : Type} (x : α) (c : Corner) : (PerCorner.all x).get c = x := by
  cases c <;> rfl

theorem PerCorner.ext_get {α : Type} {p q : PerCorner α} (h : ∀ c, p.get c = q.get c) : p = q := by
  obtain ⟨p1, p2, p3, p4⟩ := p
  obtain ⟨q1, q2, q3, q4⟩ := q
  have h1 : p1 = q1 := h .fl
  have h2 : p2 = q2 := h .fr
  have h3 : p3 = q3 := h .rl
  have h4 : p4 = q4 := h .rr
  subst h1 h2 h3 h4
  rfl

@[simp] theorem PerSide.get_set_same {α : Type} (p : PerSide α) (d : Side) (x : α) : (p.set d x).get d = x := by
  cases d <;> rfl

theorem PerSide.get_set_ne {α : Type} (p : PerSide α) {c d : Side} (x : α) (h : d ≠ c) :
    (p.set c x).get d = p.get d := by
  cases c <;> cases d <;> first | rfl | exact absurd rfl h

@[simp] theorem PerPort.get_set_same {α : Type} (p : PerPort α) (q : Port) (x : α) : (p.set q x).get q = x := by
  cases q <;> rfl

theorem PerPort.get_set_ne {α : Type} (p : PerPort α) {q r : Port} (x : α) (h : r ≠ q) :
    (p.set q x).get r = p.get r := by
  cases q <;> cases r <;> first | rfl | exact absurd rfl h

theorem PerPort.get_set {α : Type} (p : PerPort α) (q r : Port) (x : α) :
    (p.set q x).get r = if r = q then x else p.get r := by
  cases q <;> cases r <;> rfl

theorem opposite_ne (p : Port) : opposite p ≠ p := by
  cases p <;> decide

@[simp] theorem opposite_opposite (p : Port) : opposite (opposite p) = p := by
  cases p <;> rfl

@[simp] theorem PerSource.get_set_same {α : Type} (p : PerSource α) (q : Source) (x : α) : (p.set q x).get q = x := by
  cases q <;> rfl

theorem PerSource.get_set_ne {α : Type} (p : PerSource α) {q r : Source} (x : α) (h : r ≠ q) :
    (p.set q x).get r = p.get r := by
  cases q <;> cases r <;> first | rfl | exact absurd rfl h

@[simp] theorem PerSignal.get_set_same {α : Type} (p : PerSignal α) (g : Signal) (x : α) : (p.set g x).get g = x := by
  cases g <;> rfl

theorem PerSignal.get_set_ne {α : Type} (p : PerSignal α) {g h : Signal} (x : α) (n : h ≠ g) :
    (p.set g x).get h = p.get h := by
  cases g <;> cases h <;> first | rfl | exact absurd rfl n

@[simp] theorem PerSignal.get_ofFn {α : Type} (f : Signal → α) (g : Signal) : (PerSignal.ofFn f).get g = f g := by
  cases g <;> rfl

@[simp] theorem PerSignal.get_all {α : Type} (x : α) (g : Signal) : (PerSignal.all x).get g = x := by
  cases g <;> rfl

/-! ### What the updates of one item write -/

/-! `State.setCorner` -/

@[simp] theorem setCorner_pending (s : State) (c : Corner) (r : DriveRecord) : (s.setCorner c r).pending = s.pending := rfl

@[simp] theorem setCorner_resetInProgress (s : State) (c : Corner) (r : DriveRecord) : (s.setCorner c r).resetInProgress = s.resetInProgress := rfl

@[simp] theorem setCorner_link (s : State) (c : Corner) (r : DriveRecord) : (s.setCorner c r).link = s.link := rfl

@[simp] theorem setCorner_capture (s : State) (c : Corner) (r : DriveRecord) : (s.setCorner c r).capture = s.capture := rfl

@[simp] theorem setCorner_timing (s : State) (c : Corner) (r : DriveRecord) : (s.setCorner c r).timing = s.timing := rfl

@[simp] theorem setCorner_engine (s : State) (c : Corner) (r : DriveRecord) : (s.setCorner c r).engine = s.engine := rfl

@[simp] theorem setCorner_tables (s : State) (c : Corner) (r : DriveRecord) : (s.setCorner c r).tables = s.tables := rfl

@[simp] theorem setCorner_drive (s : State) (c : Corner) (r : DriveRecord) : (s.setCorner c r).drive = { s.drive with corners := s.drive.corners.set c r } := rfl

@[simp] theorem setCorner_monitor (s : State) (c : Corner) (r : DriveRecord) : (s.setCorner c r).monitor = s.monitor := rfl

@[simp] theorem setCorner_supply (s : State) (c : Corner) (r : DriveRecord) : (s.setCorner c r).supply = s.supply := rfl

@[simp] theorem setCorner_gate (s : State) (c : Corner) (r : DriveRecord) : (s.setCorner c r).gate = s.gate := rfl

@[simp] theorem setCorner_mgmt (s : State) (c : Corner) (r : DriveRecord) : (s.setCorner c r).mgmt = s.mgmt := rfl


/-! `State.setMonitor` -/

@[simp] theorem setMonitor_pending (s : State) (c : Corner) (m : MonitorRecord) : (s.setMonitor c m).pending = s.pending := rfl

@[simp] theorem setMonitor_resetInProgress (s : State) (c : Corner) (m : MonitorRecord) : (s.setMonitor c m).resetInProgress = s.resetInProgress := rfl

@[simp] theorem setMonitor_link (s : State) (c : Corner) (m : MonitorRecord) : (s.setMonitor c m).link = s.link := rfl

@[simp] theorem setMonitor_capture (s : State) (c : Corner) (m : MonitorRecord) : (s.setMonitor c m).capture = s.capture := rfl

@[simp] theorem setMonitor_timing (s : State) (c : Corner) (m : MonitorRecord) : (s.setMonitor c m).timing = s.timing := rfl

@[simp] theorem setMonitor_engine (s : State) (c : Corner) (m : MonitorRecord) : (s.setMonitor c m).engine = s.engine := rfl

@[simp] theorem setMonitor_tables (s : State) (c : Corner) (m : MonitorRecord) : (s.setMonitor c m).tables = s.tables := rfl

@[simp] theorem setMonitor_drive (s : State) (c : Corner) (m : MonitorRecord) : (s.setMonitor c m).drive = s.drive := rfl

@[simp] theorem setMonitor_monitor (s : State) (c : Corner) (m : MonitorRecord) : (s.setMonitor c m).monitor = s.monitor.set c m := rfl

@[simp] theorem setMonitor_supply (s : State) (c : Corner) (m : MonitorRecord) : (s.setMonitor c m).supply = s.supply := rfl

@[simp] theorem setMonitor_gate (s : State) (c : Corner) (m : MonitorRecord) : (s.setMonitor c m).gate = s.gate := rfl

@[simp] theorem setMonitor_mgmt (s : State) (c : Corner) (m : MonitorRecord) : (s.setMonitor c m).mgmt = s.mgmt := rfl


/-! `State.setLive` -/

@[simp] theorem setLive_pending (s : State) (l : PerSignal Live) : (s.setLive l).pending = s.pending := rfl

@[simp] theorem setLive_resetInProgress (s : State) (l : PerSignal Live) : (s.setLive l).resetInProgress = s.resetInProgress := rfl

@[simp] theorem setLive_link (s : State) (l : PerSignal Live) : (s.setLive l).link = s.link := rfl

@[simp] theorem setLive_capture (s : State) (l : PerSignal Live) : (s.setLive l).capture = { s.capture with live := l } := rfl

@[simp] theorem setLive_timing (s : State) (l : PerSignal Live) : (s.setLive l).timing = s.timing := rfl

@[simp] theorem setLive_engine (s : State) (l : PerSignal Live) : (s.setLive l).engine = s.engine := rfl

@[simp] theorem setLive_tables (s : State) (l : PerSignal Live) : (s.setLive l).tables = s.tables := rfl

@[simp] theorem setLive_drive (s : State) (l : PerSignal Live) : (s.setLive l).drive = s.drive := rfl

@[simp] theorem setLive_monitor (s : State) (l : PerSignal Live) : (s.setLive l).monitor = s.monitor := rfl

@[simp] theorem setLive_supply (s : State) (l : PerSignal Live) : (s.setLive l).supply = s.supply := rfl

@[simp] theorem setLive_gate (s : State) (l : PerSignal Live) : (s.setLive l).gate = s.gate := rfl

@[simp] theorem setLive_mgmt (s : State) (l : PerSignal Live) : (s.setLive l).mgmt = s.mgmt := rfl


/-! `State.setSources` -/

@[simp] theorem setSources_pending (s : State) (p : PerSource SourceState) : (s.setSources p).pending = s.pending := rfl

@[simp] theorem setSources_resetInProgress (s : State) (p : PerSource SourceState) : (s.setSources p).resetInProgress = s.resetInProgress := rfl

@[simp] theorem setSources_link (s : State) (p : PerSource SourceState) : (s.setSources p).link = s.link := rfl

@[simp] theorem setSources_capture (s : State) (p : PerSource SourceState) : (s.setSources p).capture = s.capture := rfl

@[simp] theorem setSources_timing (s : State) (p : PerSource SourceState) : (s.setSources p).timing = { s.timing with sources := p } := rfl

@[simp] theorem setSources_engine (s : State) (p : PerSource SourceState) : (s.setSources p).engine = s.engine := rfl

@[simp] theorem setSources_tables (s : State) (p : PerSource SourceState) : (s.setSources p).tables = s.tables := rfl

@[simp] theorem setSources_drive (s : State) (p : PerSource SourceState) : (s.setSources p).drive = s.drive := rfl

@[simp] theorem setSources_monitor (s : State) (p : PerSource SourceState) : (s.setSources p).monitor = s.monitor := rfl

@[simp] theorem setSources_supply (s : State) (p : PerSource SourceState) : (s.setSources p).supply = s.supply := rfl

@[simp] theorem setSources_gate (s : State) (p : PerSource SourceState) : (s.setSources p).gate = s.gate := rfl

@[simp] theorem setSources_mgmt (s : State) (p : PerSource SourceState) : (s.setSources p).mgmt = s.mgmt := rfl


/-! `State.setStaggered` -/

@[simp] theorem setStaggered_pending (s : State) (p : PerCorner (Option Staggered)) : (s.setStaggered p).pending = s.pending := rfl

@[simp] theorem setStaggered_resetInProgress (s : State) (p : PerCorner (Option Staggered)) : (s.setStaggered p).resetInProgress = s.resetInProgress := rfl

@[simp] theorem setStaggered_link (s : State) (p : PerCorner (Option Staggered)) : (s.setStaggered p).link = s.link := rfl

@[simp] theorem setStaggered_capture (s : State) (p : PerCorner (Option Staggered)) : (s.setStaggered p).capture = s.capture := rfl

@[simp] theorem setStaggered_timing (s : State) (p : PerCorner (Option Staggered)) : (s.setStaggered p).timing = s.timing := rfl

@[simp] theorem setStaggered_engine (s : State) (p : PerCorner (Option Staggered)) : (s.setStaggered p).engine = s.engine := rfl

@[simp] theorem setStaggered_tables (s : State) (p : PerCorner (Option Staggered)) : (s.setStaggered p).tables = s.tables := rfl

@[simp] theorem setStaggered_drive (s : State) (p : PerCorner (Option Staggered)) : (s.setStaggered p).drive = { s.drive with staggered := p } := rfl

@[simp] theorem setStaggered_monitor (s : State) (p : PerCorner (Option Staggered)) : (s.setStaggered p).monitor = s.monitor := rfl

@[simp] theorem setStaggered_supply (s : State) (p : PerCorner (Option Staggered)) : (s.setStaggered p).supply = s.supply := rfl

@[simp] theorem setStaggered_gate (s : State) (p : PerCorner (Option Staggered)) : (s.setStaggered p).gate = s.gate := rfl

@[simp] theorem setStaggered_mgmt (s : State) (p : PerCorner (Option Staggered)) : (s.setStaggered p).mgmt = s.mgmt := rfl


/-! `State.setWaiting` -/

@[simp] theorem setWaiting_pending (s : State) (cs : List Corner) : (s.setWaiting cs).pending = s.pending := rfl

@[simp] theorem setWaiting_resetInProgress (s : State) (cs : List Corner) : (s.setWaiting cs).resetInProgress = s.resetInProgress := rfl

@[simp] theorem setWaiting_link (s : State) (cs : List Corner) : (s.setWaiting cs).link = s.link := rfl

@[simp] theorem setWaiting_capture (s : State) (cs : List Corner) : (s.setWaiting cs).capture = s.capture := rfl

@[simp] theorem setWaiting_timing (s : State) (cs : List Corner) : (s.setWaiting cs).timing = s.timing := rfl

@[simp] theorem setWaiting_engine (s : State) (cs : List Corner) : (s.setWaiting cs).engine = s.engine := rfl

@[simp] theorem setWaiting_tables (s : State) (cs : List Corner) : (s.setWaiting cs).tables = s.tables := rfl

@[simp] theorem setWaiting_drive (s : State) (cs : List Corner) : (s.setWaiting cs).drive = { s.drive with waiting := cs } := rfl

@[simp] theorem setWaiting_monitor (s : State) (cs : List Corner) : (s.setWaiting cs).monitor = s.monitor := rfl

@[simp] theorem setWaiting_supply (s : State) (cs : List Corner) : (s.setWaiting cs).supply = s.supply := rfl

@[simp] theorem setWaiting_gate (s : State) (cs : List Corner) : (s.setWaiting cs).gate = s.gate := rfl

@[simp] theorem setWaiting_mgmt (s : State) (cs : List Corner) : (s.setWaiting cs).mgmt = s.mgmt := rfl


/-! `State.setSlots` -/

@[simp] theorem setSlots_pending (s : State) (cs : List Corner) : (s.setSlots cs).pending = s.pending := rfl

@[simp] theorem setSlots_resetInProgress (s : State) (cs : List Corner) : (s.setSlots cs).resetInProgress = s.resetInProgress := rfl

@[simp] theorem setSlots_link (s : State) (cs : List Corner) : (s.setSlots cs).link = s.link := rfl

@[simp] theorem setSlots_capture (s : State) (cs : List Corner) : (s.setSlots cs).capture = s.capture := rfl

@[simp] theorem setSlots_timing (s : State) (cs : List Corner) : (s.setSlots cs).timing = s.timing := rfl

@[simp] theorem setSlots_engine (s : State) (cs : List Corner) : (s.setSlots cs).engine = s.engine := rfl

@[simp] theorem setSlots_tables (s : State) (cs : List Corner) : (s.setSlots cs).tables = s.tables := rfl

@[simp] theorem setSlots_drive (s : State) (cs : List Corner) : (s.setSlots cs).drive = { s.drive with slots := cs } := rfl

@[simp] theorem setSlots_monitor (s : State) (cs : List Corner) : (s.setSlots cs).monitor = s.monitor := rfl

@[simp] theorem setSlots_supply (s : State) (cs : List Corner) : (s.setSlots cs).supply = s.supply := rfl

@[simp] theorem setSlots_gate (s : State) (cs : List Corner) : (s.setSlots cs).gate = s.gate := rfl

@[simp] theorem setSlots_mgmt (s : State) (cs : List Corner) : (s.setSlots cs).mgmt = s.mgmt := rfl


/-! `State.setPort` -/

@[simp] theorem setPort_pending (s : State) (p : Port) (u : PortUnit) : (s.setPort p u).pending = s.pending := rfl

@[simp] theorem setPort_resetInProgress (s : State) (p : Port) (u : PortUnit) : (s.setPort p u).resetInProgress = s.resetInProgress := rfl

@[simp] theorem setPort_link (s : State) (p : Port) (u : PortUnit) : (s.setPort p u).link = { s.link with ports := s.link.ports.set p u } := rfl

@[simp] theorem setPort_capture (s : State) (p : Port) (u : PortUnit) : (s.setPort p u).capture = s.capture := rfl

@[simp] theorem setPort_timing (s : State) (p : Port) (u : PortUnit) : (s.setPort p u).timing = s.timing := rfl

@[simp] theorem setPort_engine (s : State) (p : Port) (u : PortUnit) : (s.setPort p u).engine = s.engine := rfl

@[simp] theorem setPort_tables (s : State) (p : Port) (u : PortUnit) : (s.setPort p u).tables = s.tables := rfl

@[simp] theorem setPort_drive (s : State) (p : Port) (u : PortUnit) : (s.setPort p u).drive = s.drive := rfl

@[simp] theorem setPort_monitor (s : State) (p : Port) (u : PortUnit) : (s.setPort p u).monitor = s.monitor := rfl

@[simp] theorem setPort_supply (s : State) (p : Port) (u : PortUnit) : (s.setPort p u).supply = s.supply := rfl

@[simp] theorem setPort_gate (s : State) (p : Port) (u : PortUnit) : (s.setPort p u).gate = s.gate := rfl

@[simp] theorem setPort_mgmt (s : State) (p : Port) (u : PortUnit) : (s.setPort p u).mgmt = s.mgmt := rfl


/-! `setFlag` -/

@[simp] theorem setFlag_pending (f : Flag) (s : State) : (setFlag f s).pending = s.pending := rfl

@[simp] theorem setFlag_resetInProgress (f : Flag) (s : State) : (setFlag f s).resetInProgress = s.resetInProgress := rfl

@[simp] theorem setFlag_link (f : Flag) (s : State) : (setFlag f s).link = s.link := rfl

@[simp] theorem setFlag_capture (f : Flag) (s : State) : (setFlag f s).capture = s.capture := rfl

@[simp] theorem setFlag_timing (f : Flag) (s : State) : (setFlag f s).timing = s.timing := rfl

@[simp] theorem setFlag_engine (f : Flag) (s : State) : (setFlag f s).engine = s.engine := rfl

@[simp] theorem setFlag_tables (f : Flag) (s : State) : (setFlag f s).tables = s.tables := rfl

@[simp] theorem setFlag_drive (f : Flag) (s : State) : (setFlag f s).drive = s.drive := rfl

@[simp] theorem setFlag_monitor (f : Flag) (s : State) : (setFlag f s).monitor = s.monitor := rfl

@[simp] theorem setFlag_supply (f : Flag) (s : State) : (setFlag f s).supply = s.supply := rfl

@[simp] theorem setFlag_gate (f : Flag) (s : State) : (setFlag f s).gate = s.gate := rfl

@[simp] theorem setFlag_mgmt (f : Flag) (s : State) : (setFlag f s).mgmt = { s.mgmt with flags := s.mgmt.flags ||| f.mask } := rfl


/-! `clearFlags` -/

@[simp] theorem clearFlags_pending (w : Word) (s : State) : (clearFlags w s).pending = s.pending := rfl

@[simp] theorem clearFlags_resetInProgress (w : Word) (s : State) : (clearFlags w s).resetInProgress = s.resetInProgress := rfl

@[simp] theorem clearFlags_link (w : Word) (s : State) : (clearFlags w s).link = s.link := rfl

@[simp] theorem clearFlags_capture (w : Word) (s : State) : (clearFlags w s).capture = s.capture := rfl

@[simp] theorem clearFlags_timing (w : Word) (s : State) : (clearFlags w s).timing = s.timing := rfl

@[simp] theorem clearFlags_engine (w : Word) (s : State) : (clearFlags w s).engine = s.engine := rfl

@[simp] theorem clearFlags_tables (w : Word) (s : State) : (clearFlags w s).tables = s.tables := rfl

@[simp] theorem clearFlags_drive (w : Word) (s : State) : (clearFlags w s).drive = s.drive := rfl

@[simp] theorem clearFlags_monitor (w : Word) (s : State) : (clearFlags w s).monitor = s.monitor := rfl

@[simp] theorem clearFlags_supply (w : Word) (s : State) : (clearFlags w s).supply = s.supply := rfl

@[simp] theorem clearFlags_gate (w : Word) (s : State) : (clearFlags w s).gate = s.gate := rfl

@[simp] theorem clearFlags_mgmt (w : Word) (s : State) : (clearFlags w s).mgmt = { s.mgmt with flags := s.mgmt.flags &&& ~~~w } := rfl


/-! `keepExecuting` -/

@[simp] theorem keepExecuting_pending (r : Request) (s : State) : (keepExecuting r s).pending = s.pending := rfl

@[simp] theorem keepExecuting_resetInProgress (r : Request) (s : State) : (keepExecuting r s).resetInProgress = s.resetInProgress := rfl

@[simp] theorem keepExecuting_link (r : Request) (s : State) : (keepExecuting r s).link = s.link := rfl

@[simp] theorem keepExecuting_capture (r : Request) (s : State) : (keepExecuting r s).capture = s.capture := rfl

@[simp] theorem keepExecuting_timing (r : Request) (s : State) : (keepExecuting r s).timing = s.timing := rfl

@[simp] theorem keepExecuting_engine (r : Request) (s : State) : (keepExecuting r s).engine = s.engine := rfl

@[simp] theorem keepExecuting_tables (r : Request) (s : State) : (keepExecuting r s).tables = s.tables := rfl

@[simp] theorem keepExecuting_drive (r : Request) (s : State) : (keepExecuting r s).drive = s.drive := rfl

@[simp] theorem keepExecuting_monitor (r : Request) (s : State) : (keepExecuting r s).monitor = s.monitor := rfl

@[simp] theorem keepExecuting_supply (r : Request) (s : State) : (keepExecuting r s).supply = s.supply := rfl

@[simp] theorem keepExecuting_gate (r : Request) (s : State) : (keepExecuting r s).gate = s.gate := rfl

@[simp] theorem keepExecuting_mgmt (r : Request) (s : State) : (keepExecuting r s).mgmt = { s.mgmt with executing := some r } := rfl


/-! `setFlagIf` -/

@[simp] theorem setFlagIf_pending (b : Bool) (f : Flag) (s : State) : (setFlagIf b f s).pending = s.pending := by
  cases b <;> rfl

@[simp] theorem setFlagIf_resetInProgress (b : Bool) (f : Flag) (s : State) : (setFlagIf b f s).resetInProgress = s.resetInProgress := by
  cases b <;> rfl

@[simp] theorem setFlagIf_link (b : Bool) (f : Flag) (s : State) : (setFlagIf b f s).link = s.link := by
  cases b <;> rfl

@[simp] theorem setFlagIf_capture (b : Bool) (f : Flag) (s : State) : (setFlagIf b f s).capture = s.capture := by
  cases b <;> rfl

@[simp] theorem setFlagIf_timing (b : Bool) (f : Flag) (s : State) : (setFlagIf b f s).timing = s.timing := by
  cases b <;> rfl

@[simp] theorem setFlagIf_engine (b : Bool) (f : Flag) (s : State) : (setFlagIf b f s).engine = s.engine := by
  cases b <;> rfl

@[simp] theorem setFlagIf_tables (b : Bool) (f : Flag) (s : State) : (setFlagIf b f s).tables = s.tables := by
  cases b <;> rfl

@[simp] theorem setFlagIf_drive (b : Bool) (f : Flag) (s : State) : (setFlagIf b f s).drive = s.drive := by
  cases b <;> rfl

@[simp] theorem setFlagIf_monitor (b : Bool) (f : Flag) (s : State) : (setFlagIf b f s).monitor = s.monitor := by
  cases b <;> rfl

@[simp] theorem setFlagIf_supply (b : Bool) (f : Flag) (s : State) : (setFlagIf b f s).supply = s.supply := by
  cases b <;> rfl

@[simp] theorem setFlagIf_gate (b : Bool) (f : Flag) (s : State) : (setFlagIf b f s).gate = s.gate := by
  cases b <;> rfl

@[simp] theorem setFlagIf_true (f : Flag) (s : State) : setFlagIf true f s = setFlag f s := rfl

@[simp] theorem setFlagIf_false (f : Flag) (s : State) : setFlagIf false f s = s := rfl

/-! ### Items read after an update -/

@[simp] theorem corner_setCorner_same (s : State) (c : Corner) (r : DriveRecord) : (s.setCorner c r).corner c = r := by
  cases c <;> rfl

theorem corner_setCorner_ne (s : State) {c d : Corner} (r : DriveRecord) (h : d ≠ c) :
    (s.setCorner c r).corner d = s.corner d := PerCorner.get_set_ne _ _ h

@[simp] theorem corner_setMonitor (s : State) (c d : Corner) (m : MonitorRecord) :
    (s.setMonitor c m).corner d = s.corner d := rfl

@[simp] theorem corner_setWaiting (s : State) (cs : List Corner) (d : Corner) :
    (s.setWaiting cs).corner d = s.corner d := rfl

@[simp] theorem corner_setSlots (s : State) (cs : List Corner) (d : Corner) :
    (s.setSlots cs).corner d = s.corner d := rfl

@[simp] theorem corner_setStaggered (s : State) (p : PerCorner (Option Staggered)) (d : Corner) :
    (s.setStaggered p).corner d = s.corner d := rfl

@[simp] theorem corner_setPort (s : State) (p : Port) (u : PortUnit) (d : Corner) :
    (s.setPort p u).corner d = s.corner d := rfl

@[simp] theorem corner_setFlag (s : State) (f : Flag) (d : Corner) : (setFlag f s).corner d = s.corner d := rfl

@[simp] theorem monitorOf_setMonitor_same (s : State) (c : Corner) (m : MonitorRecord) :
    (s.setMonitor c m).monitorOf c = m := by
  cases c <;> rfl

theorem monitorOf_setMonitor_ne (s : State) {c d : Corner} (m : MonitorRecord) (h : d ≠ c) :
    (s.setMonitor c m).monitorOf d = s.monitorOf d := PerCorner.get_set_ne _ _ h

@[simp] theorem monitorOf_setCorner (s : State) (c d : Corner) (r : DriveRecord) :
    (s.setCorner c r).monitorOf d = s.monitorOf d := rfl

@[simp] theorem monitorOf_setWaiting (s : State) (cs : List Corner) (d : Corner) :
    (s.setWaiting cs).monitorOf d = s.monitorOf d := rfl

@[simp] theorem monitorOf_setSlots (s : State) (cs : List Corner) (d : Corner) :
    (s.setSlots cs).monitorOf d = s.monitorOf d := rfl

@[simp] theorem monitorOf_setFlag (s : State) (f : Flag) (d : Corner) :
    (setFlag f s).monitorOf d = s.monitorOf d := rfl

@[simp] theorem port_setPort_same (s : State) (p : Port) (u : PortUnit) : (s.setPort p u).port p = u := by
  cases p <;> rfl

theorem port_setPort_ne (s : State) {p q : Port} (u : PortUnit) (h : q ≠ p) : (s.setPort p u).port q = s.port q :=
  PerPort.get_set_ne _ _ h

@[simp] theorem port_setFlag (s : State) (f : Flag) (p : Port) : (setFlag f s).port p = s.port p := rfl

/-! ### Flags -/

theorem flag_mask_isSet (f g : Flag) : g.isSet f.mask = decide (g = f) := by
  cases f <;> cases g <;> decide

@[simp] theorem flag_isSet_or (f : Flag) (w v : Word) : f.isSet (w ||| v) = (f.isSet w || f.isSet v) := by
  simp [Flag.isSet]

/-- A flag set stays set, the flag named becomes set, the others are as they were (R186). -/
theorem setFlag_isSet (f g : Flag) (s : State) :
    g.isSet (setFlag f s).mgmt.flags = (g.isSet s.mgmt.flags || decide (g = f)) := by
  simp [flag_mask_isSet]

/-- A fold over a list keeps what each of its steps keeps. -/
theorem foldl_keeps {α β γ : Type} (π : β → γ) (f : β → α → β) (h : ∀ b a, π (f b a) = π b) (l : List α) (b : β) :
    π (l.foldl f b) = π b := by
  induction l generalizing b with
  | nil => rfl
  | cons a as ih => rw [List.foldl_cons, ih, h]

end Sys2Proof.Machine
end

