-- ==== Sys2Proof/Laws/CaptureFrames.lean ====
section
/-! SUPPORT. What each operation of Signal Capture leaves as it was. -/

namespace Sys2Proof.Machine

@[simp] theorem writeSignal_frame (g : Signal) (v : Int) (s : State) :
    (writeSignal g v s).pending = s.pending ∧ (writeSignal g v s).resetInProgress = s.resetInProgress ∧
    (writeSignal g v s).link = s.link ∧ (writeSignal g v s).timing = s.timing ∧
    (writeSignal g v s).engine = s.engine ∧ (writeSignal g v s).tables = s.tables ∧
    (writeSignal g v s).drive = s.drive ∧ (writeSignal g v s).monitor = s.monitor ∧
    (writeSignal g v s).supply = s.supply ∧ (writeSignal g v s).gate = s.gate ∧
    (writeSignal g v s).capture.short = s.capture.short ∧ (writeSignal g v s).mgmt.executing = s.mgmt.executing ∧
    (writeSignal g v s).mgmt.queue = s.mgmt.queue ∧ (writeSignal g v s).mgmt.captures = s.mgmt.captures := by
  unfold writeSignal
  dsimp only
  cases decide (clampSignal g v ≠ v) <;> simp

@[simp] theorem serveRow_frame (i : Nat) (ws : List Word) (g : Signal) (s : State) :
    (serveRow i ws g s).pending = s.pending ∧ (serveRow i ws g s).resetInProgress = s.resetInProgress ∧
    (serveRow i ws g s).link = s.link ∧ (serveRow i ws g s).timing = s.timing ∧
    (serveRow i ws g s).engine = s.engine ∧ (serveRow i ws g s).tables = s.tables ∧
    (serveRow i ws g s).drive = s.drive ∧ (serveRow i ws g s).monitor = s.monitor ∧
    (serveRow i ws g s).supply = s.supply ∧ (serveRow i ws g s).gate = s.gate ∧
    (serveRow i ws g s).mgmt.executing = s.mgmt.executing ∧ (serveRow i ws g s).mgmt.queue = s.mgmt.queue ∧
    (serveRow i ws g s).mgmt.captures = s.mgmt.captures := by
  unfold serveRow
  split
  · simp
  · split
    · split <;> simp
    · simp

@[simp] theorem readSample_frame (i : Nat) (ws : List Word) (s : State) :
    (readSample i ws s).pending = s.pending ∧ (readSample i ws s).resetInProgress = s.resetInProgress ∧
    (readSample i ws s).link = s.link ∧ (readSample i ws s).timing = s.timing ∧
    (readSample i ws s).engine = s.engine ∧ (readSample i ws s).tables = s.tables ∧
    (readSample i ws s).drive = s.drive ∧ (readSample i ws s).monitor = s.monitor ∧
    (readSample i ws s).supply = s.supply ∧ (readSample i ws s).gate = s.gate ∧
    (readSample i ws s).mgmt.executing = s.mgmt.executing ∧ (readSample i ws s).mgmt.queue = s.mgmt.queue ∧
    (readSample i ws s).mgmt.captures = s.mgmt.captures := by
  unfold readSample
  exact ⟨foldl_keeps (fun t : State => t.pending) _ (fun _ _ => by simp) _ _,
    foldl_keeps (fun t : State => t.resetInProgress) _ (fun _ _ => by simp) _ _,
    foldl_keeps (fun t : State => t.link) _ (fun _ _ => by simp) _ _,
    foldl_keeps (fun t : State => t.timing) _ (fun _ _ => by simp) _ _,
    foldl_keeps (fun t : State => t.engine) _ (fun _ _ => by simp) _ _,
    foldl_keeps (fun t : State => t.tables) _ (fun _ _ => by simp) _ _,
    foldl_keeps (fun t : State => t.drive) _ (fun _ _ => by simp) _ _,
    foldl_keeps (fun t : State => t.monitor) _ (fun _ _ => by simp) _ _,
    foldl_keeps (fun t : State => t.supply) _ (fun _ _ => by simp) _ _,
    foldl_keeps (fun t : State => t.gate) _ (fun _ _ => by simp) _ _,
    foldl_keeps (fun t : State => t.mgmt.executing) _ (fun _ _ => by simp) _ _,
    foldl_keeps (fun t : State => t.mgmt.queue) _ (fun _ _ => by simp) _ _,
    foldl_keeps (fun t : State => t.mgmt.captures) _ (fun _ _ => by simp) _ _⟩

@[simp] theorem ageSignals_frame (k : Nat) (s : State) :
    (ageSignals k s).pending = s.pending ∧ (ageSignals k s).resetInProgress = s.resetInProgress ∧
    (ageSignals k s).link = s.link ∧ (ageSignals k s).timing = s.timing ∧ (ageSignals k s).engine = s.engine ∧
    (ageSignals k s).tables = s.tables ∧ (ageSignals k s).drive = s.drive ∧ (ageSignals k s).monitor = s.monitor ∧
    (ageSignals k s).supply = s.supply ∧ (ageSignals k s).gate = s.gate ∧ (ageSignals k s).mgmt = s.mgmt ∧
    (ageSignals k s).capture.short = s.capture.short := by
  simp [ageSignals]

@[simp] theorem swapCapture_frame (o : Tables) (s : State) :
    (swapCapture o s).pending = s.pending ∧ (swapCapture o s).resetInProgress = s.resetInProgress ∧
    (swapCapture o s).link = s.link ∧ (swapCapture o s).timing = s.timing ∧ (swapCapture o s).engine = s.engine ∧
    (swapCapture o s).tables = s.tables ∧ (swapCapture o s).drive = s.drive ∧
    (swapCapture o s).monitor = s.monitor ∧ (swapCapture o s).supply = s.supply ∧ (swapCapture o s).gate = s.gate ∧
    (swapCapture o s).mgmt = s.mgmt ∧ (swapCapture o s).capture.short = s.capture.short := by
  simp [swapCapture]

end Sys2Proof.Machine
end

