-- ==== Sys2Proof/Laws/DriveFrames.lean ====
section
/-! SUPPORT. What each shared operation and each operation of the Drive Unit and the Drive Gate leaves as it was. -/

namespace Sys2Proof.Machine

@[simp] theorem offerFrame_frame (limit : Nat) (p : Port) (f : Frame) (s : State) :
    (offerFrame limit p f s).pending = s.pending ∧ (offerFrame limit p f s).resetInProgress = s.resetInProgress ∧
    (offerFrame limit p f s).capture = s.capture ∧ (offerFrame limit p f s).timing = s.timing ∧
    (offerFrame limit p f s).engine = s.engine ∧ (offerFrame limit p f s).tables = s.tables ∧
    (offerFrame limit p f s).drive = s.drive ∧ (offerFrame limit p f s).monitor = s.monitor ∧
    (offerFrame limit p f s).supply = s.supply ∧ (offerFrame limit p f s).gate = s.gate ∧
    (offerFrame limit p f s).link.nodeAddress = s.link.nodeAddress ∧
    (offerFrame limit p f s).mgmt.executing = s.mgmt.executing ∧
    (offerFrame limit p f s).mgmt.queue = s.mgmt.queue ∧ (offerFrame limit p f s).mgmt.captures = s.mgmt.captures := by
  unfold offerFrame
  split <;> simp

@[simp] theorem answer_frame (r : Request) (x : Result) (ws : List Word) (s : State) :
    (answer r x ws s).pending = s.pending ∧ (answer r x ws s).resetInProgress = s.resetInProgress ∧
    (answer r x ws s).capture = s.capture ∧ (answer r x ws s).timing = s.timing ∧
    (answer r x ws s).engine = s.engine ∧ (answer r x ws s).tables = s.tables ∧ (answer r x ws s).drive = s.drive ∧
    (answer r x ws s).monitor = s.monitor ∧ (answer r x ws s).supply = s.supply ∧ (answer r x ws s).gate = s.gate ∧
    (answer r x ws s).link.nodeAddress = s.link.nodeAddress ∧ (answer r x ws s).mgmt.executing = s.mgmt.executing ∧
    (answer r x ws s).mgmt.queue = s.mgmt.queue ∧ (answer r x ws s).mgmt.captures = s.mgmt.captures := by
  unfold answer
  split <;> simp

@[simp] theorem endExecuting_frame (x : Result) (ws : List Word) (s : State) :
    (endExecuting x ws s).pending = s.pending ∧ (endExecuting x ws s).resetInProgress = s.resetInProgress ∧
    (endExecuting x ws s).capture = s.capture ∧ (endExecuting x ws s).timing = s.timing ∧
    (endExecuting x ws s).engine = s.engine ∧ (endExecuting x ws s).tables = s.tables ∧
    (endExecuting x ws s).drive = s.drive ∧ (endExecuting x ws s).monitor = s.monitor ∧
    (endExecuting x ws s).supply = s.supply ∧ (endExecuting x ws s).gate = s.gate ∧
    (endExecuting x ws s).link.nodeAddress = s.link.nodeAddress ∧ (endExecuting x ws s).mgmt.queue = s.mgmt.queue ∧
    (endExecuting x ws s).mgmt.captures = s.mgmt.captures := by
  unfold endExecuting
  split <;> simp

@[simp] theorem startSettling_frame (c : Corner) (s : State) :
    (startSettling c s).pending = s.pending ∧ (startSettling c s).resetInProgress = s.resetInProgress ∧
    (startSettling c s).link = s.link ∧ (startSettling c s).capture = s.capture ∧
    (startSettling c s).timing = s.timing ∧ (startSettling c s).engine = s.engine ∧
    (startSettling c s).tables = s.tables ∧ (startSettling c s).drive = s.drive ∧
    (startSettling c s).supply = s.supply ∧ (startSettling c s).gate = s.gate ∧ (startSettling c s).mgmt = s.mgmt := by
  simp [startSettling]

@[simp] theorem abortTest_frame (c : Corner) (s : State) :
    (abortTest c s).pending = s.pending ∧ (abortTest c s).resetInProgress = s.resetInProgress ∧
    (abortTest c s).capture = s.capture ∧ (abortTest c s).timing = s.timing ∧ (abortTest c s).engine = s.engine ∧
    (abortTest c s).tables = s.tables ∧ (abortTest c s).drive = s.drive ∧ (abortTest c s).supply = s.supply ∧
    (abortTest c s).gate = s.gate ∧ (abortTest c s).link.nodeAddress = s.link.nodeAddress ∧
    (abortTest c s).mgmt.queue = s.mgmt.queue ∧ (abortTest c s).mgmt.captures = s.mgmt.captures := by
  unfold abortTest
  split <;> simp

@[simp] theorem enter_frame (c : Corner) (d : DriveState) (t : Nat) (s : State) :
    (enter c d t s).pending = s.pending ∧ (enter c d t s).resetInProgress = s.resetInProgress ∧
    (enter c d t s).link = s.link ∧ (enter c d t s).capture = s.capture ∧ (enter c d t s).timing = s.timing ∧
    (enter c d t s).engine = s.engine ∧ (enter c d t s).tables = s.tables ∧ (enter c d t s).monitor = s.monitor ∧
    (enter c d t s).supply = s.supply ∧ (enter c d t s).gate = s.gate ∧ (enter c d t s).mgmt = s.mgmt ∧
    (enter c d t s).drive.slots = s.drive.slots ∧ (enter c d t s).drive.waiting = s.drive.waiting ∧
    (enter c d t s).drive.staggered = s.drive.staggered := by
  simp [enter]

@[simp] theorem reformDuty_frame (c : Corner) (s : State) :
    (reformDuty c s).pending = s.pending ∧ (reformDuty c s).resetInProgress = s.resetInProgress ∧
    (reformDuty c s).link = s.link ∧ (reformDuty c s).capture = s.capture ∧ (reformDuty c s).timing = s.timing ∧
    (reformDuty c s).engine = s.engine ∧ (reformDuty c s).tables = s.tables ∧ (reformDuty c s).monitor = s.monitor ∧
    (reformDuty c s).supply = s.supply ∧ (reformDuty c s).gate = s.gate ∧ (reformDuty c s).mgmt = s.mgmt ∧
    (reformDuty c s).drive.slots = s.drive.slots ∧ (reformDuty c s).drive.waiting = s.drive.waiting ∧
    (reformDuty c s).drive.staggered = s.drive.staggered := by
  unfold reformDuty
  split <;> simp

@[simp] theorem toHold_frame (c : Corner) (t : Nat) (s : State) :
    (toHold c t s).pending = s.pending ∧ (toHold c t s).resetInProgress = s.resetInProgress ∧
    (toHold c t s).link = s.link ∧ (toHold c t s).capture = s.capture ∧ (toHold c t s).timing = s.timing ∧
    (toHold c t s).engine = s.engine ∧ (toHold c t s).tables = s.tables ∧ (toHold c t s).supply = s.supply ∧
    (toHold c t s).gate = s.gate ∧ (toHold c t s).mgmt = s.mgmt ∧ (toHold c t s).drive.slots = s.drive.slots ∧
    (toHold c t s).drive.waiting = s.drive.waiting ∧ (toHold c t s).drive.staggered = s.drive.staggered := by
  simp [toHold]

@[simp] theorem toWait_frame (c : Corner) (t : Nat) (s : State) :
    (toWait c t s).pending = s.pending ∧ (toWait c t s).resetInProgress = s.resetInProgress ∧
    (toWait c t s).capture = s.capture ∧ (toWait c t s).timing = s.timing ∧ (toWait c t s).engine = s.engine ∧
    (toWait c t s).tables = s.tables ∧ (toWait c t s).supply = s.supply ∧ (toWait c t s).gate = s.gate ∧
    (toWait c t s).link.nodeAddress = s.link.nodeAddress ∧ (toWait c t s).mgmt.queue = s.mgmt.queue ∧
    (toWait c t s).mgmt.captures = s.mgmt.captures ∧ (toWait c t s).drive.slots = s.drive.slots ∧
    (toWait c t s).drive.staggered = s.drive.staggered := by
  simp [toWait]

@[simp] theorem toBoost_frame (c : Corner) (t : Nat) (s : State) :
    (toBoost c t s).pending = s.pending ∧ (toBoost c t s).resetInProgress = s.resetInProgress ∧
    (toBoost c t s).capture = s.capture ∧ (toBoost c t s).timing = s.timing ∧ (toBoost c t s).engine = s.engine ∧
    (toBoost c t s).tables = s.tables ∧ (toBoost c t s).supply = s.supply ∧ (toBoost c t s).gate = s.gate ∧
    (toBoost c t s).link.nodeAddress = s.link.nodeAddress ∧ (toBoost c t s).mgmt.queue = s.mgmt.queue ∧
    (toBoost c t s).mgmt.captures = s.mgmt.captures ∧ (toBoost c t s).drive.waiting = s.drive.waiting ∧
    (toBoost c t s).drive.staggered = s.drive.staggered := by
  simp [toBoost]

@[simp] theorem toOff_frame (c : Corner) (s : State) :
    (toOff c s).pending = s.pending ∧ (toOff c s).resetInProgress = s.resetInProgress ∧
    (toOff c s).capture = s.capture ∧ (toOff c s).timing = s.timing ∧ (toOff c s).engine = s.engine ∧
    (toOff c s).tables = s.tables ∧ (toOff c s).supply = s.supply ∧ (toOff c s).gate = s.gate ∧
    (toOff c s).link.nodeAddress = s.link.nodeAddress ∧ (toOff c s).mgmt.queue = s.mgmt.queue ∧
    (toOff c s).mgmt.captures = s.mgmt.captures ∧ (toOff c s).drive.slots = s.drive.slots ∧
    (toOff c s).drive.waiting = s.drive.waiting ∧ (toOff c s).drive.staggered = s.drive.staggered := by
  simp [toOff]

@[simp] theorem retarget_frame (c : Corner) (t : Nat) (s : State) :
    (retarget c t s).pending = s.pending ∧ (retarget c t s).resetInProgress = s.resetInProgress ∧
    (retarget c t s).link = s.link ∧ (retarget c t s).capture = s.capture ∧ (retarget c t s).timing = s.timing ∧
    (retarget c t s).engine = s.engine ∧ (retarget c t s).tables = s.tables ∧ (retarget c t s).supply = s.supply ∧
    (retarget c t s).gate = s.gate ∧ (retarget c t s).mgmt = s.mgmt ∧ (retarget c t s).drive.slots = s.drive.slots ∧
    (retarget c t s).drive.waiting = s.drive.waiting ∧ (retarget c t s).drive.staggered = s.drive.staggered := by
  unfold retarget
  split <;> simp

@[simp] theorem grantHead_frame (s : State) :
    (grantHead s).pending = s.pending ∧ (grantHead s).resetInProgress = s.resetInProgress ∧
    (grantHead s).capture = s.capture ∧ (grantHead s).timing = s.timing ∧ (grantHead s).engine = s.engine ∧
    (grantHead s).tables = s.tables ∧ (grantHead s).supply = s.supply ∧ (grantHead s).gate = s.gate ∧
    (grantHead s).link.nodeAddress = s.link.nodeAddress ∧ (grantHead s).mgmt.queue = s.mgmt.queue ∧
    (grantHead s).mgmt.captures = s.mgmt.captures ∧ (grantHead s).drive.staggered = s.drive.staggered := by
  unfold grantHead
  split
  · simp
  · split <;> simp

@[simp] theorem endBoost_frame (c : Corner) (t : Nat) (s : State) :
    (endBoost c t s).pending = s.pending ∧ (endBoost c t s).resetInProgress = s.resetInProgress ∧
    (endBoost c t s).capture = s.capture ∧ (endBoost c t s).timing = s.timing ∧ (endBoost c t s).engine = s.engine ∧
    (endBoost c t s).tables = s.tables ∧ (endBoost c t s).supply = s.supply ∧ (endBoost c t s).gate = s.gate ∧
    (endBoost c t s).link.nodeAddress = s.link.nodeAddress ∧ (endBoost c t s).mgmt.queue = s.mgmt.queue ∧
    (endBoost c t s).mgmt.captures = s.mgmt.captures ∧ (endBoost c t s).drive.staggered = s.drive.staggered := by
  simp [endBoost]

@[simp] theorem requestBoost_frame (c : Corner) (t : Nat) (s : State) :
    (requestBoost c t s).pending = s.pending ∧ (requestBoost c t s).resetInProgress = s.resetInProgress ∧
    (requestBoost c t s).capture = s.capture ∧ (requestBoost c t s).timing = s.timing ∧
    (requestBoost c t s).engine = s.engine ∧ (requestBoost c t s).tables = s.tables ∧
    (requestBoost c t s).supply = s.supply ∧ (requestBoost c t s).gate = s.gate ∧
    (requestBoost c t s).link.nodeAddress = s.link.nodeAddress ∧ (requestBoost c t s).mgmt.queue = s.mgmt.queue ∧
    (requestBoost c t s).mgmt.captures = s.mgmt.captures ∧ (requestBoost c t s).drive.staggered = s.drive.staggered := by
  unfold requestBoost
  split <;> simp

@[simp] theorem updateTarget_frame (c : Corner) (t : Nat) (s : State) :
    (updateTarget c t s).pending = s.pending ∧ (updateTarget c t s).resetInProgress = s.resetInProgress ∧
    (updateTarget c t s).capture = s.capture ∧ (updateTarget c t s).timing = s.timing ∧
    (updateTarget c t s).engine = s.engine ∧ (updateTarget c t s).tables = s.tables ∧
    (updateTarget c t s).supply = s.supply ∧ (updateTarget c t s).gate = s.gate ∧
    (updateTarget c t s).link.nodeAddress = s.link.nodeAddress ∧ (updateTarget c t s).mgmt.queue = s.mgmt.queue ∧
    (updateTarget c t s).mgmt.captures = s.mgmt.captures ∧ (updateTarget c t s).drive.staggered = s.drive.staggered := by
  unfold updateTarget
  dsimp only
  split <;> (try split) <;> simp

@[simp] theorem deliverTogether_frame (ts : PerCorner Nat) (s : State) :
    (deliverTogether ts s).pending = s.pending ∧ (deliverTogether ts s).resetInProgress = s.resetInProgress ∧
    (deliverTogether ts s).capture = s.capture ∧ (deliverTogether ts s).timing = s.timing ∧
    (deliverTogether ts s).engine = s.engine ∧ (deliverTogether ts s).tables = s.tables ∧
    (deliverTogether ts s).supply = s.supply ∧ (deliverTogether ts s).gate = s.gate ∧
    (deliverTogether ts s).link.nodeAddress = s.link.nodeAddress ∧
    (deliverTogether ts s).mgmt.queue = s.mgmt.queue ∧ (deliverTogether ts s).mgmt.captures = s.mgmt.captures ∧
    (deliverTogether ts s).drive.staggered = s.drive.staggered := by
  unfold deliverTogether
  dsimp only
  exact ⟨(foldl_keeps (fun t : State => t.pending) _ (fun _ _ => by simp) _ _).trans ((foldl_keeps (fun t : State => t.pending) _ (fun _ _ => by simp) _ _).trans (foldl_keeps (fun t : State => t.pending) _ (fun _ _ => by simp) _ _)),
    (foldl_keeps (fun t : State => t.resetInProgress) _ (fun _ _ => by simp) _ _).trans ((foldl_keeps (fun t : State => t.resetInProgress) _ (fun _ _ => by simp) _ _).trans (foldl_keeps (fun t : State => t.resetInProgress) _ (fun _ _ => by simp) _ _)),
    (foldl_keeps (fun t : State => t.capture) _ (fun _ _ => by simp) _ _).trans ((foldl_keeps (fun t : State => t.capture) _ (fun _ _ => by simp) _ _).trans (foldl_keeps (fun t : State => t.capture) _ (fun _ _ => by simp) _ _)),
    (foldl_keeps (fun t : State => t.timing) _ (fun _ _ => by simp) _ _).trans ((foldl_keeps (fun t : State => t.timing) _ (fun _ _ => by simp) _ _).trans (foldl_keeps (fun t : State => t.timing) _ (fun _ _ => by simp) _ _)),
    (foldl_keeps (fun t : State => t.engine) _ (fun _ _ => by simp) _ _).trans ((foldl_keeps (fun t : State => t.engine) _ (fun _ _ => by simp) _ _).trans (foldl_keeps (fun t : State => t.engine) _ (fun _ _ => by simp) _ _)),
    (foldl_keeps (fun t : State => t.tables) _ (fun _ _ => by simp) _ _).trans ((foldl_keeps (fun t : State => t.tables) _ (fun _ _ => by simp) _ _).trans (foldl_keeps (fun t : State => t.tables) _ (fun _ _ => by simp) _ _)),
    (foldl_keeps (fun t : State => t.supply) _ (fun _ _ => by simp) _ _).trans ((foldl_keeps (fun t : State => t.supply) _ (fun _ _ => by simp) _ _).trans (foldl_keeps (fun t : State => t.supply) _ (fun _ _ => by simp) _ _)),
    (foldl_keeps (fun t : State => t.gate) _ (fun _ _ => by simp) _ _).trans ((foldl_keeps (fun t : State => t.gate) _ (fun _ _ => by simp) _ _).trans (foldl_keeps (fun t : State => t.gate) _ (fun _ _ => by simp) _ _)),
    (foldl_keeps (fun t : State => t.link.nodeAddress) _ (fun _ _ => by simp) _ _).trans ((foldl_keeps (fun t : State => t.link.nodeAddress) _ (fun _ _ => by simp) _ _).trans (foldl_keeps (fun t : State => t.link.nodeAddress) _ (fun _ _ => by simp) _ _)),
    (foldl_keeps (fun t : State => t.mgmt.queue) _ (fun _ _ => by simp) _ _).trans ((foldl_keeps (fun t : State => t.mgmt.queue) _ (fun _ _ => by simp) _ _).trans (foldl_keeps (fun t : State => t.mgmt.queue) _ (fun _ _ => by simp) _ _)),
    (foldl_keeps (fun t : State => t.mgmt.captures) _ (fun _ _ => by simp) _ _).trans ((foldl_keeps (fun t : State => t.mgmt.captures) _ (fun _ _ => by simp) _ _).trans (foldl_keeps (fun t : State => t.mgmt.captures) _ (fun _ _ => by simp) _ _)),
    (foldl_keeps (fun t : State => t.drive.staggered) _ (fun _ _ => by simp) _ _).trans ((foldl_keeps (fun t : State => t.drive.staggered) _ (fun _ _ => by simp) _ _).trans (foldl_keeps (fun t : State => t.drive.staggered) _ (fun _ _ => by simp) _ _))⟩

@[simp] theorem cancelStaggered_frame (s : State) :
    (cancelStaggered s).pending = s.pending ∧ (cancelStaggered s).resetInProgress = s.resetInProgress ∧
    (cancelStaggered s).link = s.link ∧ (cancelStaggered s).capture = s.capture ∧
    (cancelStaggered s).timing = s.timing ∧ (cancelStaggered s).engine = s.engine ∧
    (cancelStaggered s).tables = s.tables ∧ (cancelStaggered s).monitor = s.monitor ∧
    (cancelStaggered s).supply = s.supply ∧ (cancelStaggered s).gate = s.gate ∧ (cancelStaggered s).mgmt = s.mgmt ∧
    (cancelStaggered s).drive.corners = s.drive.corners ∧ (cancelStaggered s).drive.slots = s.drive.slots ∧
    (cancelStaggered s).drive.waiting = s.drive.waiting := by
  simp [cancelStaggered]

@[simp] theorem deliverStaggered_frame (n : Nat) (ts : PerCorner Nat) (s : State) :
    (deliverStaggered n ts s).pending = s.pending ∧ (deliverStaggered n ts s).resetInProgress = s.resetInProgress ∧
    (deliverStaggered n ts s).capture = s.capture ∧ (deliverStaggered n ts s).timing = s.timing ∧
    (deliverStaggered n ts s).engine = s.engine ∧ (deliverStaggered n ts s).tables = s.tables ∧
    (deliverStaggered n ts s).supply = s.supply ∧ (deliverStaggered n ts s).gate = s.gate ∧
    (deliverStaggered n ts s).link.nodeAddress = s.link.nodeAddress ∧
    (deliverStaggered n ts s).mgmt.queue = s.mgmt.queue ∧ (deliverStaggered n ts s).mgmt.captures = s.mgmt.captures := by
  simp [deliverStaggered]

@[simp] theorem deliver_frame (b : Bank) (ts : PerCorner Nat) (s : State) :
    (deliver b ts s).pending = s.pending ∧ (deliver b ts s).resetInProgress = s.resetInProgress ∧
    (deliver b ts s).capture = s.capture ∧ (deliver b ts s).timing = s.timing ∧ (deliver b ts s).engine = s.engine ∧
    (deliver b ts s).tables = s.tables ∧ (deliver b ts s).supply = s.supply ∧ (deliver b ts s).gate = s.gate ∧
    (deliver b ts s).link.nodeAddress = s.link.nodeAddress ∧ (deliver b ts s).mgmt.queue = s.mgmt.queue ∧
    (deliver b ts s).mgmt.captures = s.mgmt.captures := by
  unfold deliver
  dsimp only
  split <;> simp

@[simp] theorem allDrivenOff_frame (s : State) :
    (allDrivenOff s).pending = s.pending ∧ (allDrivenOff s).resetInProgress = s.resetInProgress ∧
    (allDrivenOff s).capture = s.capture ∧ (allDrivenOff s).timing = s.timing ∧ (allDrivenOff s).engine = s.engine ∧
    (allDrivenOff s).tables = s.tables ∧ (allDrivenOff s).supply = s.supply ∧ (allDrivenOff s).gate = s.gate ∧
    (allDrivenOff s).link.nodeAddress = s.link.nodeAddress ∧ (allDrivenOff s).mgmt.queue = s.mgmt.queue ∧
    (allDrivenOff s).mgmt.captures = s.mgmt.captures ∧ (allDrivenOff s).drive.slots = s.drive.slots ∧
    (allDrivenOff s).drive.waiting = s.drive.waiting ∧ (allDrivenOff s).drive.staggered = s.drive.staggered := by
  unfold allDrivenOff
  exact ⟨foldl_keeps (fun t : State => t.pending) _ (fun _ _ => by split <;> simp) _ _,
    foldl_keeps (fun t : State => t.resetInProgress) _ (fun _ _ => by split <;> simp) _ _,
    foldl_keeps (fun t : State => t.capture) _ (fun _ _ => by split <;> simp) _ _,
    foldl_keeps (fun t : State => t.timing) _ (fun _ _ => by split <;> simp) _ _,
    foldl_keeps (fun t : State => t.engine) _ (fun _ _ => by split <;> simp) _ _,
    foldl_keeps (fun t : State => t.tables) _ (fun _ _ => by split <;> simp) _ _,
    foldl_keeps (fun t : State => t.supply) _ (fun _ _ => by split <;> simp) _ _,
    foldl_keeps (fun t : State => t.gate) _ (fun _ _ => by split <;> simp) _ _,
    foldl_keeps (fun t : State => t.link.nodeAddress) _ (fun _ _ => by split <;> simp) _ _,
    foldl_keeps (fun t : State => t.mgmt.queue) _ (fun _ _ => by split <;> simp) _ _,
    foldl_keeps (fun t : State => t.mgmt.captures) _ (fun _ _ => by split <;> simp) _ _,
    foldl_keeps (fun t : State => t.drive.slots) _ (fun _ _ => by split <;> simp) _ _,
    foldl_keeps (fun t : State => t.drive.waiting) _ (fun _ _ => by split <;> simp) _ _,
    foldl_keeps (fun t : State => t.drive.staggered) _ (fun _ _ => by split <;> simp) _ _⟩

@[simp] theorem closeGate_frame (x : CloseCause) (s : State) :
    (closeGate x s).pending = s.pending ∧ (closeGate x s).resetInProgress = s.resetInProgress ∧
    (closeGate x s).capture = s.capture ∧ (closeGate x s).timing = s.timing ∧ (closeGate x s).engine = s.engine ∧
    (closeGate x s).tables = s.tables ∧ (closeGate x s).supply = s.supply ∧
    (closeGate x s).link.nodeAddress = s.link.nodeAddress ∧ (closeGate x s).mgmt.queue = s.mgmt.queue ∧
    (closeGate x s).mgmt.captures = s.mgmt.captures := by
  unfold closeGate
  split <;> simp

@[simp] theorem openGate_frame (s : State) :
    (openGate s).pending = s.pending ∧ (openGate s).resetInProgress = s.resetInProgress ∧
    (openGate s).link = s.link ∧ (openGate s).capture = s.capture ∧ (openGate s).timing = s.timing ∧
    (openGate s).engine = s.engine ∧ (openGate s).tables = s.tables ∧ (openGate s).supply = s.supply ∧
    (openGate s).mgmt = s.mgmt ∧ (openGate s).gate.cause = s.gate.cause ∧ (openGate s).drive.slots = s.drive.slots ∧
    (openGate s).drive.waiting = s.drive.waiting ∧ (openGate s).drive.staggered = s.drive.staggered := by
  unfold openGate
  exact ⟨foldl_keeps (fun t : State => t.pending) _ (fun _ _ => by split <;> simp) _ _,
    foldl_keeps (fun t : State => t.resetInProgress) _ (fun _ _ => by split <;> simp) _ _,
    foldl_keeps (fun t : State => t.link) _ (fun _ _ => by split <;> simp) _ _,
    foldl_keeps (fun t : State => t.capture) _ (fun _ _ => by split <;> simp) _ _,
    foldl_keeps (fun t : State => t.timing) _ (fun _ _ => by split <;> simp) _ _,
    foldl_keeps (fun t : State => t.engine) _ (fun _ _ => by split <;> simp) _ _,
    foldl_keeps (fun t : State => t.tables) _ (fun _ _ => by split <;> simp) _ _,
    foldl_keeps (fun t : State => t.supply) _ (fun _ _ => by split <;> simp) _ _,
    foldl_keeps (fun t : State => t.mgmt) _ (fun _ _ => by split <;> simp) _ _,
    foldl_keeps (fun t : State => t.gate.cause) _ (fun _ _ => by split <;> simp) _ _,
    foldl_keeps (fun t : State => t.drive.slots) _ (fun _ _ => by split <;> simp) _ _,
    foldl_keeps (fun t : State => t.drive.waiting) _ (fun _ _ => by split <;> simp) _ _,
    foldl_keeps (fun t : State => t.drive.staggered) _ (fun _ _ => by split <;> simp) _ _⟩

@[simp] theorem startPeriods_frame (s : State) :
    (startPeriods s).pending = s.pending ∧ (startPeriods s).resetInProgress = s.resetInProgress ∧
    (startPeriods s).link = s.link ∧ (startPeriods s).capture = s.capture ∧ (startPeriods s).timing = s.timing ∧
    (startPeriods s).engine = s.engine ∧ (startPeriods s).tables = s.tables ∧ (startPeriods s).monitor = s.monitor ∧
    (startPeriods s).supply = s.supply ∧ (startPeriods s).gate = s.gate ∧ (startPeriods s).mgmt = s.mgmt ∧
    (startPeriods s).drive.slots = s.drive.slots ∧ (startPeriods s).drive.waiting = s.drive.waiting ∧
    (startPeriods s).drive.staggered = s.drive.staggered := by
  simp [startPeriods]

/-- Every record as its next period starts. -/
@[simp] theorem startPeriods_corner (s : State) (c : Corner) : (startPeriods s).corner c = startPeriod s c := by
  cases c <;> rfl

@[simp] theorem runPeriod_frame (c : Corner) (s : State) :
    (runPeriod c s).pending = s.pending ∧ (runPeriod c s).resetInProgress = s.resetInProgress ∧
    (runPeriod c s).link = s.link ∧ (runPeriod c s).capture = s.capture ∧ (runPeriod c s).timing = s.timing ∧
    (runPeriod c s).engine = s.engine ∧ (runPeriod c s).tables = s.tables ∧ (runPeriod c s).monitor = s.monitor ∧
    (runPeriod c s).supply = s.supply ∧ (runPeriod c s).gate = s.gate ∧ (runPeriod c s).mgmt = s.mgmt ∧
    (runPeriod c s).drive.slots = s.drive.slots ∧ (runPeriod c s).drive.waiting = s.drive.waiting ∧
    (runPeriod c s).drive.staggered = s.drive.staggered := by
  unfold runPeriod
  split <;> simp

@[simp] theorem endPeriod_frame (c : Corner) (s : State) :
    (endPeriod c s).pending = s.pending ∧ (endPeriod c s).resetInProgress = s.resetInProgress ∧
    (endPeriod c s).link = s.link ∧ (endPeriod c s).capture = s.capture ∧ (endPeriod c s).timing = s.timing ∧
    (endPeriod c s).engine = s.engine ∧ (endPeriod c s).tables = s.tables ∧ (endPeriod c s).monitor = s.monitor ∧
    (endPeriod c s).supply = s.supply ∧ (endPeriod c s).gate = s.gate ∧ (endPeriod c s).mgmt = s.mgmt ∧
    (endPeriod c s).drive.slots = s.drive.slots ∧ (endPeriod c s).drive.waiting = s.drive.waiting ∧
    (endPeriod c s).drive.staggered = s.drive.staggered := by
  unfold endPeriod
  dsimp only
  split <;> simp

end Sys2Proof.Machine
end

