-- ==== Sys2Proof/Laws/MonitorFrames.lean ====
section
/-! SUPPORT. What each judgement of a measurement and of a supply sample leaves as it was. -/

namespace Sys2Proof.Machine

@[simp] theorem latchFault_frame (c : Corner) (x : FaultCause) (s : State) :
    (latchFault c x s).pending = s.pending ∧ (latchFault c x s).resetInProgress = s.resetInProgress ∧
    (latchFault c x s).capture = s.capture ∧ (latchFault c x s).timing = s.timing ∧
    (latchFault c x s).engine = s.engine ∧ (latchFault c x s).tables = s.tables ∧
    (latchFault c x s).supply = s.supply ∧ (latchFault c x s).gate = s.gate ∧
    (latchFault c x s).link.nodeAddress = s.link.nodeAddress ∧ (latchFault c x s).mgmt.queue = s.mgmt.queue ∧
    (latchFault c x s).mgmt.captures = s.mgmt.captures ∧ (latchFault c x s).drive.slots = s.drive.slots ∧
    (latchFault c x s).drive.staggered = s.drive.staggered := by
  unfold latchFault
  dsimp only
  split <;> simp

@[simp] theorem judgeDriven_frame (c : Corner) (m : Nat) (s : State) :
    (judgeDriven c m s).pending = s.pending ∧ (judgeDriven c m s).resetInProgress = s.resetInProgress ∧
    (judgeDriven c m s).capture = s.capture ∧ (judgeDriven c m s).timing = s.timing ∧
    (judgeDriven c m s).engine = s.engine ∧ (judgeDriven c m s).tables = s.tables ∧
    (judgeDriven c m s).supply = s.supply ∧ (judgeDriven c m s).gate = s.gate ∧
    (judgeDriven c m s).link.nodeAddress = s.link.nodeAddress ∧ (judgeDriven c m s).mgmt.queue = s.mgmt.queue ∧
    (judgeDriven c m s).mgmt.captures = s.mgmt.captures ∧ (judgeDriven c m s).drive.slots = s.drive.slots ∧
    (judgeDriven c m s).drive.staggered = s.drive.staggered := by
  unfold judgeDriven
  dsimp only
  split
  · split <;> simp
  · simp

@[simp] theorem judgeOff_frame (c : Corner) (m : Nat) (s : State) :
    (judgeOff c m s).pending = s.pending ∧ (judgeOff c m s).resetInProgress = s.resetInProgress ∧
    (judgeOff c m s).capture = s.capture ∧ (judgeOff c m s).timing = s.timing ∧ (judgeOff c m s).engine = s.engine ∧
    (judgeOff c m s).tables = s.tables ∧ (judgeOff c m s).supply = s.supply ∧ (judgeOff c m s).gate = s.gate ∧
    (judgeOff c m s).link.nodeAddress = s.link.nodeAddress ∧ (judgeOff c m s).mgmt.queue = s.mgmt.queue ∧
    (judgeOff c m s).mgmt.captures = s.mgmt.captures ∧ (judgeOff c m s).drive.slots = s.drive.slots ∧
    (judgeOff c m s).drive.staggered = s.drive.staggered := by
  unfold judgeOff
  dsimp only
  split
  · split <;> simp
  · simp

@[simp] theorem judgeTest_frame (c : Corner) (m : Nat) (t : MonitorTest) (s : State) :
    (judgeTest c m t s).pending = s.pending ∧ (judgeTest c m t s).resetInProgress = s.resetInProgress ∧
    (judgeTest c m t s).capture = s.capture ∧ (judgeTest c m t s).timing = s.timing ∧
    (judgeTest c m t s).engine = s.engine ∧ (judgeTest c m t s).tables = s.tables ∧
    (judgeTest c m t s).drive = s.drive ∧ (judgeTest c m t s).supply = s.supply ∧
    (judgeTest c m t s).gate = s.gate ∧ (judgeTest c m t s).link.nodeAddress = s.link.nodeAddress ∧
    (judgeTest c m t s).mgmt.queue = s.mgmt.queue ∧ (judgeTest c m t s).mgmt.captures = s.mgmt.captures := by
  unfold judgeTest
  dsimp only
  split_ifs <;> simp

@[simp] theorem judge_frame (c : Corner) (m : Nat) (s : State) :
    (judge c m s).pending = s.pending ∧ (judge c m s).resetInProgress = s.resetInProgress ∧
    (judge c m s).capture = s.capture ∧ (judge c m s).timing = s.timing ∧ (judge c m s).engine = s.engine ∧
    (judge c m s).tables = s.tables ∧ (judge c m s).supply = s.supply ∧ (judge c m s).gate = s.gate ∧
    (judge c m s).link.nodeAddress = s.link.nodeAddress ∧ (judge c m s).mgmt.queue = s.mgmt.queue ∧
    (judge c m s).mgmt.captures = s.mgmt.captures ∧ (judge c m s).drive.slots = s.drive.slots ∧
    (judge c m s).drive.staggered = s.drive.staggered := by
  unfold judge
  split
  · simp
  · split
    · simp
    · split <;> simp

@[simp] theorem judgeLow_frame (s : State) :
    (judgeLow s).pending = s.pending ∧ (judgeLow s).resetInProgress = s.resetInProgress ∧
    (judgeLow s).link = s.link ∧ (judgeLow s).capture = s.capture ∧ (judgeLow s).timing = s.timing ∧
    (judgeLow s).engine = s.engine ∧ (judgeLow s).tables = s.tables ∧ (judgeLow s).drive = s.drive ∧
    (judgeLow s).monitor = s.monitor ∧ (judgeLow s).gate = s.gate ∧ (judgeLow s).supply.sample = s.supply.sample ∧
    (judgeLow s).mgmt.executing = s.mgmt.executing ∧ (judgeLow s).mgmt.queue = s.mgmt.queue ∧
    (judgeLow s).mgmt.captures = s.mgmt.captures := by
  unfold judgeLow
  split
  · simp
  · split <;> simp

@[simp] theorem judgeCut_frame (s : State) :
    (judgeCut s).pending = s.pending ∧ (judgeCut s).resetInProgress = s.resetInProgress ∧
    (judgeCut s).capture = s.capture ∧ (judgeCut s).timing = s.timing ∧ (judgeCut s).engine = s.engine ∧
    (judgeCut s).tables = s.tables ∧ (judgeCut s).supply = s.supply ∧
    (judgeCut s).link.nodeAddress = s.link.nodeAddress ∧ (judgeCut s).mgmt.queue = s.mgmt.queue ∧
    (judgeCut s).mgmt.captures = s.mgmt.captures := by
  unfold judgeCut
  split <;> simp

@[simp] theorem judgeSupply_frame (s : State) :
    (judgeSupply s).pending = s.pending ∧ (judgeSupply s).resetInProgress = s.resetInProgress ∧
    (judgeSupply s).capture = s.capture ∧ (judgeSupply s).timing = s.timing ∧ (judgeSupply s).engine = s.engine ∧
    (judgeSupply s).tables = s.tables ∧ (judgeSupply s).link.nodeAddress = s.link.nodeAddress ∧
    (judgeSupply s).mgmt.queue = s.mgmt.queue ∧ (judgeSupply s).mgmt.captures = s.mgmt.captures ∧
    (judgeSupply s).supply.sample = s.supply.sample := by
  simp [judgeSupply]

end Sys2Proof.Machine
end

