-- ==== Sys2Proof/Laws/TimingFrames.lean ====
section
/-! SUPPORT. What each step of a swap, of a change of source and of a served mark leaves as it was. -/

namespace Sys2Proof.Machine

@[simp] theorem selectSource_frame (x : Source) (s : State) :
    (selectSource x s).pending = s.pending ∧ (selectSource x s).resetInProgress = s.resetInProgress ∧
    (selectSource x s).link = s.link ∧ (selectSource x s).capture = s.capture ∧
    (selectSource x s).engine = s.engine ∧ (selectSource x s).tables = s.tables ∧
    (selectSource x s).drive = s.drive ∧ (selectSource x s).monitor = s.monitor ∧
    (selectSource x s).supply = s.supply ∧ (selectSource x s).gate = s.gate ∧
    (selectSource x s).mgmt.executing = s.mgmt.executing ∧ (selectSource x s).mgmt.queue = s.mgmt.queue ∧
    (selectSource x s).mgmt.captures = s.mgmt.captures := by
  simp [selectSource]

@[simp] theorem applyProgramme_frame (s : State) :
    (applyProgramme s).pending = s.pending ∧ (applyProgramme s).resetInProgress = s.resetInProgress ∧
    (applyProgramme s).capture = s.capture ∧ (applyProgramme s).timing = s.timing ∧
    (applyProgramme s).tables = s.tables ∧ (applyProgramme s).drive = s.drive ∧
    (applyProgramme s).monitor = s.monitor ∧ (applyProgramme s).supply = s.supply ∧
    (applyProgramme s).gate = s.gate ∧ (applyProgramme s).link.nodeAddress = s.link.nodeAddress ∧
    (applyProgramme s).mgmt.queue = s.mgmt.queue ∧ (applyProgramme s).mgmt.captures = s.mgmt.captures ∧
    (applyProgramme s).engine.computing = s.engine.computing := by
  unfold applyProgramme
  split <;> simp

@[simp] theorem closeForSilence_frame (s : State) :
    (closeForSilence s).pending = s.pending ∧ (closeForSilence s).resetInProgress = s.resetInProgress ∧
    (closeForSilence s).capture = s.capture ∧ (closeForSilence s).timing = s.timing ∧
    (closeForSilence s).engine = s.engine ∧ (closeForSilence s).tables = s.tables ∧
    (closeForSilence s).supply = s.supply ∧ (closeForSilence s).link.nodeAddress = s.link.nodeAddress ∧
    (closeForSilence s).mgmt.queue = s.mgmt.queue ∧ (closeForSilence s).mgmt.captures = s.mgmt.captures := by
  simp [closeForSilence]

@[simp] theorem loseSource_frame (s : State) :
    (loseSource s).pending = s.pending ∧ (loseSource s).resetInProgress = s.resetInProgress ∧
    (loseSource s).capture = s.capture ∧ (loseSource s).tables = s.tables ∧ (loseSource s).supply = s.supply ∧
    (loseSource s).link.nodeAddress = s.link.nodeAddress ∧ (loseSource s).mgmt.queue = s.mgmt.queue ∧
    (loseSource s).mgmt.captures = s.mgmt.captures ∧ (loseSource s).engine.computing = s.engine.computing ∧
    (loseSource s).timing.sources = s.timing.sources := by
  simp [loseSource]

@[simp] theorem reselect_frame (s : State) :
    (reselect s).pending = s.pending ∧ (reselect s).resetInProgress = s.resetInProgress ∧
    (reselect s).capture = s.capture ∧ (reselect s).tables = s.tables ∧ (reselect s).supply = s.supply ∧
    (reselect s).link.nodeAddress = s.link.nodeAddress ∧ (reselect s).mgmt.queue = s.mgmt.queue ∧
    (reselect s).mgmt.captures = s.mgmt.captures ∧ (reselect s).engine.computing = s.engine.computing ∧
    (reselect s).timing.sources = s.timing.sources := by
  unfold reselect
  split
  · simp
  · split
    · simp [selectSource]
    · simp

@[simp] theorem swapTiming_frame (o : Tables) (s : State) :
    (swapTiming o s).pending = s.pending ∧ (swapTiming o s).resetInProgress = s.resetInProgress ∧
    (swapTiming o s).capture = s.capture ∧ (swapTiming o s).tables = s.tables ∧ (swapTiming o s).supply = s.supply ∧
    (swapTiming o s).link.nodeAddress = s.link.nodeAddress ∧ (swapTiming o s).mgmt.queue = s.mgmt.queue ∧
    (swapTiming o s).mgmt.captures = s.mgmt.captures ∧ (swapTiming o s).engine.computing = s.engine.computing := by
  simp [swapTiming]

@[simp] theorem swapPreview_frame (o : Tables) (s : State) :
    (swapPreview o s).pending = s.pending ∧ (swapPreview o s).resetInProgress = s.resetInProgress ∧
    (swapPreview o s).link = s.link ∧ (swapPreview o s).capture = s.capture ∧ (swapPreview o s).timing = s.timing ∧
    (swapPreview o s).tables = s.tables ∧ (swapPreview o s).drive = s.drive ∧
    (swapPreview o s).monitor = s.monitor ∧ (swapPreview o s).supply = s.supply ∧ (swapPreview o s).gate = s.gate ∧
    (swapPreview o s).mgmt = s.mgmt ∧ (swapPreview o s).engine.computing = s.engine.computing := by
  unfold swapPreview
  split
  · simp
  · split <;> simp [Engine.flushPreview]

@[simp] theorem swapCorner_frame (c : Corner) (s : State) :
    (swapCorner c s).pending = s.pending ∧ (swapCorner c s).resetInProgress = s.resetInProgress ∧
    (swapCorner c s).link = s.link ∧ (swapCorner c s).capture = s.capture ∧ (swapCorner c s).timing = s.timing ∧
    (swapCorner c s).engine = s.engine ∧ (swapCorner c s).tables = s.tables ∧ (swapCorner c s).supply = s.supply ∧
    (swapCorner c s).gate = s.gate ∧ (swapCorner c s).mgmt = s.mgmt ∧ (swapCorner c s).drive.slots = s.drive.slots ∧
    (swapCorner c s).drive.waiting = s.drive.waiting ∧ (swapCorner c s).drive.staggered = s.drive.staggered := by
  unfold swapCorner
  dsimp only
  split <;> simp

@[simp] theorem swapDrive_frame (o : Tables) (s : State) :
    (swapDrive o s).pending = s.pending ∧ (swapDrive o s).resetInProgress = s.resetInProgress ∧
    (swapDrive o s).link = s.link ∧ (swapDrive o s).capture = s.capture ∧ (swapDrive o s).timing = s.timing ∧
    (swapDrive o s).engine = s.engine ∧ (swapDrive o s).tables = s.tables ∧ (swapDrive o s).supply = s.supply ∧
    (swapDrive o s).gate = s.gate ∧ (swapDrive o s).mgmt = s.mgmt ∧ (swapDrive o s).drive.slots = s.drive.slots ∧
    (swapDrive o s).drive.waiting = s.drive.waiting := by
  unfold swapDrive
  split
  · simp
  · exact ⟨foldl_keeps (fun t : State => t.pending) _ (fun _ _ => by simp) _ _,
        foldl_keeps (fun t : State => t.resetInProgress) _ (fun _ _ => by simp) _ _,
        foldl_keeps (fun t : State => t.link) _ (fun _ _ => by simp) _ _,
        foldl_keeps (fun t : State => t.capture) _ (fun _ _ => by simp) _ _,
        foldl_keeps (fun t : State => t.timing) _ (fun _ _ => by simp) _ _,
        foldl_keeps (fun t : State => t.engine) _ (fun _ _ => by simp) _ _,
        foldl_keeps (fun t : State => t.tables) _ (fun _ _ => by simp) _ _,
        foldl_keeps (fun t : State => t.supply) _ (fun _ _ => by simp) _ _,
        foldl_keeps (fun t : State => t.gate) _ (fun _ _ => by simp) _ _,
        foldl_keeps (fun t : State => t.mgmt) _ (fun _ _ => by simp) _ _,
        foldl_keeps (fun t : State => t.drive.slots) _ (fun _ _ => by simp) _ _,
        foldl_keeps (fun t : State => t.drive.waiting) _ (fun _ _ => by simp) _ _⟩

@[simp] theorem swapSupply_frame (o : Tables) (s : State) :
    (swapSupply o s).pending = s.pending ∧ (swapSupply o s).resetInProgress = s.resetInProgress ∧
    (swapSupply o s).capture = s.capture ∧ (swapSupply o s).timing = s.timing ∧ (swapSupply o s).engine = s.engine ∧
    (swapSupply o s).tables = s.tables ∧ (swapSupply o s).link.nodeAddress = s.link.nodeAddress ∧
    (swapSupply o s).mgmt.queue = s.mgmt.queue ∧ (swapSupply o s).mgmt.captures = s.mgmt.captures ∧
    (swapSupply o s).supply.sample = s.supply.sample := by
  unfold swapSupply
  split <;> simp

@[simp] theorem swapMonitor_frame (o : Tables) (s : State) :
    (swapMonitor o s).pending = s.pending ∧ (swapMonitor o s).resetInProgress = s.resetInProgress ∧
    (swapMonitor o s).link = s.link ∧ (swapMonitor o s).capture = s.capture ∧ (swapMonitor o s).timing = s.timing ∧
    (swapMonitor o s).engine = s.engine ∧ (swapMonitor o s).tables = s.tables ∧ (swapMonitor o s).drive = s.drive ∧
    (swapMonitor o s).supply = s.supply ∧ (swapMonitor o s).gate = s.gate ∧ (swapMonitor o s).mgmt = s.mgmt := by
  unfold swapMonitor
  split <;> simp

@[simp] theorem copyStaged_frame (s : State) :
    (copyStaged s).pending = s.pending ∧ (copyStaged s).resetInProgress = s.resetInProgress ∧
    (copyStaged s).link = s.link ∧ (copyStaged s).capture = s.capture ∧ (copyStaged s).timing = s.timing ∧
    (copyStaged s).engine = s.engine ∧ (copyStaged s).drive = s.drive ∧ (copyStaged s).monitor = s.monitor ∧
    (copyStaged s).supply = s.supply ∧ (copyStaged s).gate = s.gate ∧ (copyStaged s).mgmt = s.mgmt ∧
    (copyStaged s).tables.staged = s.tables.staged := by
  simp [copyStaged]

@[simp] theorem performSwap_frame (s : State) :
    (performSwap s).pending = s.pending ∧ (performSwap s).resetInProgress = s.resetInProgress ∧
    (performSwap s).link.nodeAddress = s.link.nodeAddress ∧ (performSwap s).mgmt.queue = s.mgmt.queue ∧
    (performSwap s).mgmt.captures = s.mgmt.captures ∧ (performSwap s).engine.computing = s.engine.computing ∧
    (performSwap s).supply.sample = s.supply.sample ∧ (performSwap s).capture.short = s.capture.short ∧
    (performSwap s).tables.staged = s.tables.staged := by
  simp [performSwap]

@[simp] theorem completeCommit_frame (s : State) :
    (completeCommit s).pending = s.pending ∧ (completeCommit s).resetInProgress = s.resetInProgress ∧
    (completeCommit s).link.nodeAddress = s.link.nodeAddress ∧ (completeCommit s).mgmt.queue = s.mgmt.queue ∧
    (completeCommit s).mgmt.captures = s.mgmt.captures ∧ (completeCommit s).engine.computing = s.engine.computing ∧
    (completeCommit s).supply.sample = s.supply.sample ∧ (completeCommit s).capture.short = s.capture.short ∧
    (completeCommit s).tables.staged = s.tables.staged := by
  unfold completeCommit
  split <;> simp

@[simp] theorem reevaluate_frame (b : Bool) (s : State) :
    (reevaluate b s).pending = s.pending ∧ (reevaluate b s).resetInProgress = s.resetInProgress ∧
    (reevaluate b s).link.nodeAddress = s.link.nodeAddress ∧ (reevaluate b s).mgmt.queue = s.mgmt.queue ∧
    (reevaluate b s).mgmt.captures = s.mgmt.captures ∧ (reevaluate b s).engine.computing = s.engine.computing ∧
    (reevaluate b s).supply.sample = s.supply.sample ∧ (reevaluate b s).capture.short = s.capture.short ∧
    (reevaluate b s).tables.staged = s.tables.staged := by
  unfold reevaluate
  split
  · simp
  · split
    · simp
    · dsimp only
      split <;> simp

@[simp] theorem startCycle_frame (k : Nat) (w : Word) (n : Count) (s : State) :
    (startCycle k w n s).pending = s.pending ∧ (startCycle k w n s).resetInProgress = s.resetInProgress ∧
    (startCycle k w n s).link.nodeAddress = s.link.nodeAddress ∧ (startCycle k w n s).mgmt.queue = s.mgmt.queue ∧
    (startCycle k w n s).mgmt.captures = s.mgmt.captures ∧ (startCycle k w n s).supply.sample = s.supply.sample ∧
    (startCycle k w n s).capture.short = s.capture.short ∧ (startCycle k w n s).tables.staged = s.tables.staged := by
  unfold startCycle
  dsimp only
  generalize anyStale _ = b
  cases b <;> simp

end Sys2Proof.Machine
end

