-- ==== Sys2Proof/Laws/CycleFrames.lean ====
section
/-! SUPPORT. What the report of a cycle leaves as it was. -/

namespace Sys2Proof.Machine

@[simp] theorem makeReport_frame (y : Cycle) (s : State) :
    (makeReport y s).pending = s.pending ∧ (makeReport y s).resetInProgress = s.resetInProgress ∧
    (makeReport y s).capture = s.capture ∧ (makeReport y s).timing = s.timing ∧ (makeReport y s).engine = s.engine ∧
    (makeReport y s).tables = s.tables ∧ (makeReport y s).drive = s.drive ∧ (makeReport y s).monitor = s.monitor ∧
    (makeReport y s).supply = s.supply ∧ (makeReport y s).gate = s.gate ∧
    (makeReport y s).link.nodeAddress = s.link.nodeAddress ∧ (makeReport y s).mgmt.executing = s.mgmt.executing ∧
    (makeReport y s).mgmt.queue = s.mgmt.queue ∧ (makeReport y s).mgmt.captures = s.mgmt.captures := by
  unfold makeReport
  split <;> simp

end Sys2Proof.Machine
end

