-- ==== Sys2Proof/Laws/LinkLaws.lean ====
section
/-! SUPPORT. What the transmitter, the insert queues, the replies and the end of a request do, said once. -/

namespace Sys2Proof.Machine

/-! ### Transmitter -/

@[simp] theorem start_counters (u : PortUnit) : u.start.counters = u.counters := by
  unfold PortUnit.start
  repeat' split
  all_goals rfl

theorem start_of_busy {u : PortUnit} {x : Transmission} (h : u.line = some x) : u.start = u := by
  unfold PortUnit.start
  simp [h]

/-- A transmitter that has just been given a chance to start is free only beside two empty sources. -/
theorem start_free {u : PortUnit} (h : u.start.line = none) : u.start.fifo = [] ∧ u.start.insert = [] := by
  unfold PortUnit.start at *
  repeat' split at h
  all_goals simp_all

/-- Starting a frame lengthens neither source. -/
theorem start_lengths (u : PortUnit) :
    u.start.fifo.length ≤ u.fifo.length ∧ u.start.insert.length ≤ u.insert.length := by
  unfold PortUnit.start
  repeat' split
  all_goals simp_all

theorem port_setPort (s : State) (p q : Port) (u : PortUnit) :
    (s.setPort p u).port q = if q = p then u else s.port q :=
  PerPort.get_set _ _ _ _

theorem port_of_link {s t : State} (h : t.link = s.link) (q : Port) : t.port q = s.port q := by
  simp [State.port, h]

/-! ### Offered frames and replies -/

theorem offerFrame_of_room {limit : Nat} {p : Port} {s : State} (f : Frame)
    (h : (s.port p).insert.length < limit) :
    offerFrame limit p f s = s.setPort p ((s.port p).pushInsert f) := if_pos h

theorem offerFrame_of_full {limit : Nat} {p : Port} {s : State} (f : Frame)
    (h : limit ≤ (s.port p).insert.length) :
    offerFrame limit p f s = setFlag .insertLost (s.setPort p (s.port p).countLost) :=
  if_neg (Nat.not_lt.mpr h)

/-- An offered frame changes the link as the link alone decides. -/
theorem offerFrame_link_of {s t : State} (limit : Nat) (p : Port) (f : Frame) (h : t.link = s.link) :
    (offerFrame limit p f t).link = (offerFrame limit p f s).link := by
  unfold offerFrame State.port
  rw [h]
  split <;> simp [h]

/-- An offered frame changes the flag word as the link and the flag word decide. -/
theorem offerFrame_mgmt_of {s t : State} (limit : Nat) (p : Port) (f : Frame) (h : t.link = s.link)
    (g : t.mgmt = s.mgmt) : (offerFrame limit p f t).mgmt = (offerFrame limit p f s).mgmt := by
  unfold offerFrame State.port
  rw [h]
  split <;> simp [g]

/-- An offered frame sets no flag but INSERT_LOST. -/
theorem offerFrame_isSet (limit : Nat) (p : Port) (f : Frame) (s : State) {g : Flag} (h : g ≠ .insertLost) :
    g.isSet (offerFrame limit p f s).mgmt.flags = g.isSet s.mgmt.flags := by
  unfold offerFrame
  split
  · rfl
  · simp [flag_mask_isSet, h]

theorem answer_quiet {r : Request} (data : List Word) (s : State) (h : r.quiet = true) : answer r .ok data s = s := by
  simp [answer, h]

theorem answer_offers {r : Request} {x : Result} (data : List Word) (s : State) (h : r.quiet = false ∨ x ≠ .ok) :
    answer r x data s = offerFrame 4 r.port (replyFrame s.link.nodeAddress r.tag x data) s := by
  unfold answer
  rw [if_neg]
  · rfl
  · rcases h with h | h <;> simp [h]

theorem answer_link_of {s t : State} (r : Request) (x : Result) (data : List Word) (h : t.link = s.link) :
    (answer r x data t).link = (answer r x data s).link := by
  unfold answer
  split
  · exact h
  · rw [h]
    exact offerFrame_link_of _ _ _ h

theorem answer_mgmt_of {s t : State} (r : Request) (x : Result) (data : List Word) (h : t.link = s.link)
    (g : t.mgmt = s.mgmt) : (answer r x data t).mgmt = (answer r x data s).mgmt := by
  unfold answer
  split
  · exact g
  · rw [h]
    exact offerFrame_mgmt_of _ _ _ h g

theorem answer_isSet (r : Request) (x : Result) (data : List Word) (s : State) {g : Flag} (h : g ≠ .insertLost) :
    g.isSet (answer r x data s).mgmt.flags = g.isSet s.mgmt.flags := by
  unfold answer
  split
  · rfl
  · exact offerFrame_isSet _ _ _ _ h

theorem corner_offerFrame (limit : Nat) (p : Port) (f : Frame) (s : State) (c : Corner) :
    (offerFrame limit p f s).corner c = s.corner c := by simp [State.corner]

theorem monitorOf_offerFrame (limit : Nat) (p : Port) (f : Frame) (s : State) (c : Corner) :
    (offerFrame limit p f s).monitorOf c = s.monitorOf c := by simp [State.monitorOf]

@[simp] theorem corner_answer (r : Request) (x : Result) (data : List Word) (s : State) (c : Corner) :
    (answer r x data s).corner c = s.corner c := by simp [State.corner]

@[simp] theorem monitorOf_answer (r : Request) (x : Result) (data : List Word) (s : State) (c : Corner) :
    (answer r x data s).monitorOf c = s.monitorOf c := by simp [State.monitorOf]

/-! ### The end of a request -/

theorem endExecuting_none {s : State} (x : Result) (data : List Word) (h : s.mgmt.executing = none) :
    endExecuting x data s = s := by
  simp [endExecuting, h]

theorem endExecuting_some {s : State} {r : Request} (x : Result) (data : List Word)
    (h : s.mgmt.executing = some r) :
    endExecuting x data s = answer r x data { s with mgmt := { s.mgmt with executing := none } } := by
  simp [endExecuting, h]

@[simp] theorem endExecuting_executing (x : Result) (data : List Word) (s : State) :
    (endExecuting x data s).mgmt.executing = none := by
  unfold endExecuting
  split
  · assumption
  · simp

theorem endExecuting_isSet (x : Result) (data : List Word) (s : State) {g : Flag} (h : g ≠ .insertLost) :
    g.isSet (endExecuting x data s).mgmt.flags = g.isSet s.mgmt.flags := by
  unfold endExecuting
  split
  · rfl
  · exact answer_isSet _ _ _ _ h

theorem abortTest_none {s : State} {c : Corner} (h : (s.monitorOf c).test = none) : abortTest c s = s := by
  simp [abortTest, h]

theorem abortTest_isSet (c : Corner) (s : State) {g : Flag} (h : g ≠ .insertLost) :
    g.isSet (abortTest c s).mgmt.flags = g.isSet s.mgmt.flags := by
  unfold abortTest
  split
  · rfl
  · exact endExecuting_isSet _ _ _ h

@[simp] theorem corner_abortTest (c d : Corner) (s : State) : (abortTest c s).corner d = s.corner d := by
  simp [State.corner]

theorem monitorOf_abortTest (c d : Corner) (s : State) :
    (abortTest c s).monitorOf d =
      if d = c ∧ (s.monitorOf c).test.isSome = true then { s.monitorOf c with test := none, deviation := 0 }
      else s.monitorOf d := by
  cases h : (s.monitorOf c).test with
  | none => simp [abortTest_none h]
  | some x =>
    unfold abortTest
    rw [h]
    by_cases e : d = c
    · subst e
      simp only [endExecuting_frame, State.monitorOf, setMonitor_monitor, PerCorner.get_set_same, true_and,
        Option.isSome_some, if_true]
    · simp only [endExecuting_frame, State.monitorOf, setMonitor_monitor, PerCorner.get_set_ne _ _ e, e, false_and,
        if_false]

/-! ### The execution event of a request -/

/-- The oldest request, with none in execution, leaves the queue and acts. -/
theorem execRequest_runs {isIt : BitVec 7 → Bool} {s : State} {r : Request} {rest : List Request}
    (act : Request → State → State) (h0 : s.resetInProgress = false) (h1 : s.mgmt.executing = none)
    (h2 : s.mgmt.queue = r :: rest) (h3 : isIt r.command = true) :
    execRequest isIt act s = .next (act r { s with mgmt := { s.mgmt with queue := rest } }) := by
  simp [execRequest, h0, h1, h2, h3]

end Sys2Proof.Machine
end

