-- ==== Sys2Proof/Laws/DriveLaws.lean ====
section
/-! SUPPORT. What the operations of the Drive Unit and the Drive Gate make of each corner's record and monitor items, said
once. -/

namespace Sys2Proof.Machine

theorem corner_setCorner (s : State) (c d : Corner) (r : DriveRecord) :
    (s.setCorner c r).corner d = if d = c then r else s.corner d :=
  PerCorner.get_set _ _ _ _

theorem monitorOf_setMonitor (s : State) (c d : Corner) (m : MonitorRecord) :
    (s.setMonitor c m).monitorOf d = if d = c then m else s.monitorOf d :=
  PerCorner.get_set _ _ _ _

theorem corner_of_drive {s t : State} (h : t.drive = s.drive) (d : Corner) : t.corner d = s.corner d := by
  simp [State.corner, h]

theorem monitorOf_of_monitor {s t : State} (h : t.monitor = s.monitor) (d : Corner) :
    t.monitorOf d = s.monitorOf d := by
  simp [State.monitorOf, h]

/-! ### Duties -/

/-- A feed-forward duty depends on ACTIVE and the supply sample alone. -/
theorem feedForward_of {s t : State} (h : t.tables.active = s.tables.active) (g : t.supply.sample = s.supply.sample)
    (c : Corner) (i : Nat) : feedForward t c i = feedForward s c i := by
  simp [feedForward, h, g]

theorem dutyOf_of {s t : State} (h : t.tables.active = s.tables.active) (g : t.supply.sample = s.supply.sample)
    (c : Corner) (d : DriveState) (i : Nat) : dutyOf t c d i = dutyOf s c d i := by
  cases d <;> simp [dutyOf, feedForward_of h g]

theorem feedForward_le (s : State) (c : Corner) (i : Nat) : feedForward s c i ≤ 980 := Nat.min_le_left _ _

theorem dutyOf_le (s : State) (c : Corner) (d : DriveState) (i : Nat) : dutyOf s c d i ≤ 980 := by
  cases d <;> simp [dutyOf, feedForward_le, Config.dutyMax]

/-! ### Settling and entering a state -/

theorem monitorOf_startSettling (c d : Corner) (s : State) :
    (startSettling c s).monitorOf d =
      if d = c then { s.monitorOf c with settle := s.tables.active.settleCount, deviation := 0, stuck := 0 }
      else s.monitorOf d :=
  monitorOf_setMonitor _ _ _ _

@[simp] theorem corner_startSettling (c d : Corner) (s : State) : (startSettling c s).corner d = s.corner d := rfl

theorem corner_enter (c x : Corner) (d : DriveState) (t : Nat) (s : State) :
    (enter c d t s).corner x =
      if x = c then
        { s.corner c with
          state := d, target := t, duty := dutyOf s c d t,
          outputDuty := if d.isOff then 0 else (s.corner c).outputDuty }
      else s.corner x :=
  corner_setCorner _ _ _ _

@[simp] theorem monitorOf_enter (c x : Corner) (d : DriveState) (t : Nat) (s : State) :
    (enter c d t s).monitorOf x = s.monitorOf x := rfl

theorem corner_toHold (c x : Corner) (t : Nat) (s : State) :
    (toHold c t s).corner x =
      if x = c then { s.corner c with state := .hold, target := t, duty := feedForward s c t } else s.corner x := by
  simp [toHold, corner_enter, dutyOf, DriveState.isOff]

theorem monitorOf_toHold (c x : Corner) (t : Nat) (s : State) :
    (toHold c t s).monitorOf x =
      if x = c then { s.monitorOf c with settle := s.tables.active.settleCount, deviation := 0, stuck := 0 }
      else s.monitorOf x := by
  simp [toHold, monitorOf_startSettling]

theorem corner_toBoost (c x : Corner) (t : Nat) (s : State) :
    (toBoost c t s).corner x =
      if x = c then
        { s.corner c with state := .boost s.tables.active.boostTimeout, target := t, duty := 980 }
      else s.corner x := by
  simp [toBoost, corner_enter, dutyOf, DriveState.isOff, Config.dutyMax]

@[simp] theorem toBoost_slots (c : Corner) (t : Nat) (s : State) :
    (toBoost c t s).drive.slots = s.drive.slots ++ [c] := by
  simp [toBoost]

theorem monitorOf_toBoost (c x : Corner) (t : Nat) (s : State) :
    (toBoost c t s).monitorOf x =
      if x = c ∧ (s.monitorOf c).test.isSome = true then { s.monitorOf c with test := none, deviation := 0 }
      else s.monitorOf x := by
  unfold toBoost
  rw [monitorOf_abortTest]
  rfl

theorem corner_toWait (c x : Corner) (t : Nat) (s : State) :
    (toWait c t s).corner x =
      if x = c then
        { s.corner c with state := .wait (s.corner c).target, target := t, duty := feedForward s c t }
      else s.corner x := by
  simp [toWait, corner_enter, dutyOf, DriveState.isOff]

@[simp] theorem toWait_waiting (c : Corner) (t : Nat) (s : State) :
    (toWait c t s).drive.waiting = s.drive.waiting ++ [c] := by
  simp [toWait]

theorem monitorOf_toWait (c x : Corner) (t : Nat) (s : State) :
    (toWait c t s).monitorOf x =
      if x = c then { settle := s.tables.active.settleCount, deviation := 0, stuck := 0, test := none }
      else s.monitorOf x := by
  by_cases e : x = c
  · subst e
    cases h : (s.monitorOf x).test <;>
      simp [toWait, monitorOf_startSettling, monitorOf_abortTest, h]
  · simp [toWait, monitorOf_startSettling, monitorOf_abortTest, e]

theorem corner_toOff (c x : Corner) (s : State) :
    (toOff c s).corner x =
      if x = c then { s.corner c with state := .off, duty := 0, outputDuty := 0 } else s.corner x := by
  simp [toOff, corner_enter, dutyOf, DriveState.isOff]

theorem monitorOf_toOff (c x : Corner) (s : State) :
    (toOff c s).monitorOf x =
      if x = c then { settle := s.tables.active.settleCount, deviation := 0, stuck := 0, test := none }
      else s.monitorOf x := by
  by_cases e : x = c
  · subst e
    cases h : (s.monitorOf x).test <;>
      simp [toOff, monitorOf_startSettling, monitorOf_abortTest, h]
  · simp [toOff, monitorOf_startSettling, monitorOf_abortTest, e]

theorem corner_retarget (c x : Corner) (t : Nat) (s : State) :
    (retarget c t s).corner x =
      if x = c then
        { s.corner c with
          target := t, duty := dutyOf s c (s.corner c).state t,
          outputDuty := if (s.corner c).state.isOff then 0 else (s.corner c).outputDuty }
      else s.corner x := by
  unfold retarget
  dsimp only
  split <;> simp [corner_enter]

theorem monitorOf_retarget (c x : Corner) (t : Nat) (s : State) :
    (retarget c t s).monitorOf x =
      if x = c ∧ t ≠ (s.corner c).target then
        { s.monitorOf c with settle := s.tables.active.settleCount, deviation := 0, stuck := 0 }
      else s.monitorOf x := by
  unfold retarget
  dsimp only
  split
  · rename_i h
    simp [h]
  · rename_i h
    simp [h, monitorOf_startSettling]

/-! ### One operation at each of several corners -/

/-- Where an operation at one corner leaves what is read at every other corner, a fold of it over corners, none twice, leaves
what is read at a corner outside the list. -/
theorem foldl_corner_other {β : Type} (rd : State → Corner → β) (f : State → Corner → State)
    (h : ∀ s c d, d ≠ c → rd (f s c) d = rd s d) (l : List Corner) (s : State) (d : Corner) (hd : d ∉ l) :
    rd (l.foldl f s) d = rd s d := by
  induction l generalizing s with
  | nil => rfl
  | cons c cs ih =>
    simp only [List.mem_cons, not_or] at hd
    rw [List.foldl_cons, ih (f s c) hd.2, h s c d hd.1]

/-- At a corner in the list it reads as one operation there makes it, on a state that reads as the first one there and keeps
whatever the operation keeps. -/
theorem foldl_corner_at {β : Type} (rd : State → Corner → β) (f : State → Corner → State)
    (h : ∀ s c d, d ≠ c → rd (f s c) d = rd s d) (P : State → Prop) (hP : ∀ s c, P s → P (f s c))
    (l : List Corner) (hl : l.Nodup) (s : State) (hs : P s) (d : Corner) (hd : d ∈ l) :
    ∃ s', P s' ∧ rd s' d = rd s d ∧ rd (l.foldl f s) d = rd (f s' d) d := by
  induction l generalizing s with
  | nil => simp at hd
  | cons c cs ih =>
    rw [List.nodup_cons] at hl
    rw [List.foldl_cons]
    by_cases e : d = c
    · subst e
      exact ⟨s, hs, rfl, foldl_corner_other rd f h cs _ d hl.1⟩
    · rcases List.mem_cons.mp hd with e' | hd
      · exact absurd e' e
      · obtain ⟨s', k1, k2, k3⟩ := ih hl.2 (f s c) (hP s c hs) hd
        exact ⟨s', k1, k2.trans (h s c d e), k3⟩

theorem mem_corners (c : Corner) : c ∈ corners := by cases c <;> decide

theorem corners_nodup : corners.Nodup := by decide

/-- The record and the monitor items of a corner. -/
def State.both (s : State) (c : Corner) : DriveRecord × MonitorRecord := (s.corner c, s.monitorOf c)

/-! ### The gate -/

/-- Every driven corner goes to OFF, settling, with its target kept; the others stay (R126). -/
theorem both_allDrivenOff (s : State) (c : Corner) :
    (allDrivenOff s).both c =
      if (s.corner c).state.isDriven then
        ({ s.corner c with state := .off, duty := 0, outputDuty := 0 },
          { settle := s.tables.active.settleCount, deviation := 0, stuck := 0, test := none })
      else s.both c := by
  obtain ⟨s', k1, k2, k3⟩ := foldl_corner_at State.both
    (fun s' c => if (s'.corner c).state.isDriven then toOff c s' else s')
    (by
      intro s c d hd
      split
      · simp [State.both, corner_toOff, monitorOf_toOff, hd]
      · rfl)
    (fun s' => s'.tables = s.tables)
    (by
      intro s' c hs
      split <;> simp [hs])
    corners corners_nodup s rfl c (mem_corners c)
  have k4 : s'.corner c = s.corner c := congrArg Prod.fst k2
  refine k3.trans ?_
  dsimp only
  rw [k4]
  split
  · simp [State.both, corner_toOff, monitorOf_toOff, k4, k1]
  · exact k2

/-- The gate opens and each OFF corner goes to HOLD at its fallback current, settling; the others stay (R125). -/
theorem both_openGate (s : State) (c : Corner) :
    (openGate s).both c =
      if (s.corner c).state = .off then
        ({ s.corner c with
            state := .hold
            target := s.tables.active.iFallback (axleOf c)
            duty := feedForward s c (s.tables.active.iFallback (axleOf c)) },
          { s.monitorOf c with settle := s.tables.active.settleCount, deviation := 0, stuck := 0 })
      else s.both c := by
  obtain ⟨s', k1, k2, k3⟩ := foldl_corner_at State.both
    (fun s' c => if (s'.corner c).state = .off then toHold c (fallbackOf s' c) s' else s')
    (by
      intro s c d hd
      split
      · simp [State.both, corner_toHold, monitorOf_toHold, hd]
      · rfl)
    (fun s' => s'.tables = s.tables ∧ s'.supply = s.supply)
    (by
      intro s' c hs
      split <;> simp [hs])
    corners corners_nodup { s with gate := { s.gate with isOpen := true } } ⟨rfl, rfl⟩ c (mem_corners c)
  have k4 : s'.corner c = s.corner c := congrArg Prod.fst k2
  have k5 : s'.monitorOf c = s.monitorOf c := congrArg Prod.snd k2
  refine k3.trans ?_
  dsimp only
  rw [k4]
  split
  · simp [State.both, corner_toHold, monitorOf_toHold, fallbackOf, k4, k5, k1.1,
      feedForward_of (congrArg Tables.active k1.1) (congrArg Supply.sample k1.2)]
  · exact k2

theorem closeGate_closed {s : State} (x : CloseCause) (h : s.gate.isOpen = false) : closeGate x s = s := by
  simp [closeGate, h]

/-- An OPEN gate closes: every driven corner goes to OFF, settling; the slots, the pending list and the staggered updates
are gone (R126, R143). -/
theorem both_closeGate {s : State} (x : CloseCause) (h : s.gate.isOpen = true) (c : Corner) :
    (closeGate x s).both c =
      if (s.corner c).state.isDriven then
        ({ s.corner c with state := .off, duty := 0, outputDuty := 0 },
          { settle := s.tables.active.settleCount, deviation := 0, stuck := 0, test := none })
      else s.both c := by
  unfold closeGate
  rw [if_pos h]
  exact both_allDrivenOff { s with gate := { isOpen := false, cause := x } } c

theorem closeGate_lists {s : State} (x : CloseCause) (h : s.gate.isOpen = true) :
    (closeGate x s).drive.slots = [] ∧ (closeGate x s).drive.waiting = [] ∧
      (closeGate x s).drive.staggered = PerCorner.all none ∧
      (closeGate x s).gate = { isOpen := false, cause := x } := by
  simp [closeGate, h, cancelStaggered]

/-! ### PWM periods -/

theorem runPeriod_corner (c d : Corner) (s : State) :
    (runPeriod c s).corner d = if (s.corner c).periodEnded then startPeriod s d else s.corner d := by
  unfold runPeriod
  split <;> simp

/-- What the end of a corner's period makes of a record: with every other period ended all four start, and otherwise the
corner's own mark is set. -/
theorem endPeriod_corner (c d : Corner) (s : State) :
    (endPeriod c s).corner d =
      if corners.all fun e => e == c || (s.corner e).periodEnded then startPeriod s d
      else if d = c then { s.corner c with periodEnded := true } else s.corner d := by
  have h : (corners.all fun e => ((s.setCorner c { s.corner c with periodEnded := true }).corner e).periodEnded) =
      corners.all fun e => e == c || (s.corner e).periodEnded := by
    congr 1
    funext e
    by_cases he : e = c <;> simp [corner_setCorner, he]
  unfold endPeriod
  dsimp only
  rw [h]
  split
  · rw [startPeriods_corner]
    by_cases hd : d = c <;> simp [startPeriod, corner_setCorner, hd]
  · exact corner_setCorner _ _ _ _

end Sys2Proof.Machine
end

