-- ==== Sys2Proof/Laws/PerInstr.lean ====
section
/-! SUPPORT. Facts about every command, one lemma per constructor. -/

namespace Sys2Proof.Laws.Bounded

/-- A command is well formed exactly when any supply sample it brings is within the sense input's full scale of 20000 mV
(R139). -/
def Statement (i : Instr) : Prop := i.wellFormed = true ↔ ∀ v, i = .supplyMeasurement v → v ≤ 20000

theorem receptionCompletion (p : Port) (ws : List Word) (d w o : Bool) : Statement (.receptionCompletion p ws d w o) := by
  simp [Statement, Instr.wellFormed]

theorem transmitCompletion (p : Port) : Statement (.transmitCompletion p) := by
  simp [Statement, Instr.wellFormed]

theorem silenceTimerExpiry (q : Source) (o : Bool) : Statement (.silenceTimerExpiry q o) := by
  simp [Statement, Instr.wellFormed]

theorem computationCompletion : Statement .computationCompletion := by
  simp [Statement, Instr.wellFormed]

theorem staggeredUpdate (c : Corner) : Statement (.staggeredUpdate c) := by
  simp [Statement, Instr.wellFormed]

theorem boostTimerExpiry (c : Corner) : Statement (.boostTimerExpiry c) := by
  simp [Statement, Instr.wellFormed]

theorem currentMeasurement (c : Corner) (n : Nat) : Statement (.currentMeasurement c n) := by
  simp [Statement, Instr.wellFormed]

theorem supplyMeasurement (n : Nat) : Statement (.supplyMeasurement n) := by
  simp only [Statement, Instr.wellFormed, supplyFullScale, Instr.supplyMeasurement.injEq, forall_eq']
  exact decide_eq_true_iff

theorem nop : Statement .nop := by
  simp [Statement, Instr.wellFormed]

theorem load : Statement .load := by
  simp [Statement, Instr.wellFormed]

theorem readTable : Statement .readTable := by
  simp [Statement, Instr.wellFormed]

theorem commit : Statement .commit := by
  simp [Statement, Instr.wellFormed]

theorem discard : Statement .discard := by
  simp [Statement, Instr.wellFormed]

theorem setProgramme : Statement .setProgramme := by
  simp [Statement, Instr.wellFormed]

theorem enableDrive : Statement .enableDrive := by
  simp [Statement, Instr.wellFormed]

theorem disableDrive : Statement .disableDrive := by
  simp [Statement, Instr.wellFormed]

theorem monitorTest : Statement .monitorTest := by
  simp [Statement, Instr.wellFormed]

theorem clearFaults : Statement .clearFaults := by
  simp [Statement, Instr.wellFormed]

theorem clearFlags : Statement .clearFlags := by
  simp [Statement, Instr.wellFormed]

theorem readState : Statement .readState := by
  simp [Statement, Instr.wellFormed]

theorem resetControl : Statement .resetControl := by
  simp [Statement, Instr.wellFormed]

theorem unknownCommand : Statement .unknownCommand := by
  simp [Statement, Instr.wellFormed]

theorem powerOnReset : Statement .powerOnReset := by
  simp [Statement, Instr.wellFormed]

theorem resetLineReset : Statement .resetLineReset := by
  simp [Statement, Instr.wellFormed]

theorem resetEnd (a : BitVec 6) : Statement (.resetEnd a) := by
  simp [Statement, Instr.wellFormed]

end Sys2Proof.Laws.Bounded
end

