-- ==== Sys2Proof/Laws/TableLaws.lean ====
section
/-! SUPPORT. What the search for the first failing word of a table answers, said once. -/

namespace Sys2Proof.Machine

/-- No word fails exactly when the check passes at every offset. -/
theorem firstBad_eq_none_iff (check : Nat → Bool) (n : Nat) :
    firstBad check n = none ↔ ∀ o, o < n → check o = true := by
  simp [firstBad]

/-- The first failing word is one at which the check fails and before which it passes. -/
theorem firstBad_eq_some_iff (check : Nat → Bool) (n o : Nat) :
    firstBad check n = some o ↔ o < n ∧ check o = false ∧ ∀ q, q < o → check q = true := by
  unfold firstBad
  rw [List.find?_range_eq_some]
  simp [and_left_comm]

end Sys2Proof.Machine
end

