-- ==== Sys2Proof/Safety.lean ====
section
/-! DEFINITION. What counts as a safe state and a safe run. -/

namespace Sys2Proof.Machine

/-- A step that goes on: the part has no exception, so every well-formed command answers a next state. -/
def goesOn : Host.Outcome State Fault Refusal → Bool
  | .next _ => true
  | .fault _ => false
  | .refused _ => false

end Sys2Proof.Machine
end

