-- ==== Sys2Proof/Tests/Slice0.lean ====
section
/-! SUPPORT. The model's own tests: the well-formedness smoke, one or two small steps per command, and for every statement a
state and operands that meet its hypotheses, at the boundary values of its clauses. -/

namespace Sys2Proof.Tests

open Sys2Proof Sys2Proof.Machine

set_option Elab.async false

/-! ### Builders -/

/-- The outcome is a next state of which `p` holds. -/
def after (o : Host.Outcome State Fault Refusal) (p : State → Bool) : Bool :=
  match o with
  | .next t => p t
  | .fault _ => false
  | .refused _ => false

def words (ns : List Nat) : List Word := ns.map (BitVec.ofNat 16)

/-- One axle's map: velocity points 0, 100 .. 700, force points 0, 500 .. 3500, currents 300 + 10 × place. -/
def axleMap : List Nat :=
  ((List.range 8).map (100 * ·)) ++ ((List.range 8).map (500 * ·)) ++ ((List.range 64).map fun n => 300 + 10 * n)

/-- A bank that passes validation: idents 20 and 21, T_us 2000, two signals on ident 40, SPEED on ident 50. -/
def bank : Bank :=
  { t0 := words [32808, 0, 256, 0, 32808, 1, 256, 0, 32808, 2, 256, 0, 32808, 3, 256, 0, 32809, 0, 640, 0,
      32809, 1, 640, 0, 0, 0, 0, 0, 0, 9, 0, 0, 32818, 2, 64, 0]
    t1 := words [2000, 3, 6, 20, 21, 10, 0, 0]
    t2 := words ((List.range 24).flatMap fun i => [1000 * (i % 8), 1200, 1800 - 100 * (i % 8), 4000])
    t3 := words (axleMap ++ axleMap)
    t4 := words [3200, 3200, 3200, 3200, 300, 1800, 1000, 350, 1500, 900, 200, 200, 50, 5, 100, 3, 4, 10000, 7000, 0]
    t5 := words [1, 300, 3000, 500, 400, 192, 6, 500, 128, 10, 800, 64, 16, 1200, 32, 24] }

/-- A valid ACTIVE bank, source A ALIVE and selected, a supply of 12 V, the gate CLOSED. -/
def base : State :=
  { State.reset with
    tables := { active := bank, staged := bank, activeValid := true, commitPending := false }
    timing := { Timing.reset with sources := ⟨.alive 10, .silent⟩, selected := some .a }
    supply := { sample := 12000, low := false } }

/-- The gate OPEN and each corner in the state given, with a target of 700 mA, all settled. -/
def driven (f : Corner → DriveState) : State :=
  { base with
    drive :=
      { corners := PerCorner.ofFn fun c =>
          { state := f c, target := 700, duty := dutyOf base c (f c) 700, measured := 0, cause := .none, timeouts := 0,
            outputDuty := 0, periodLength := 200, periodEnded := false }
        slots := corners.filter fun c => (f c).code == 3
        waiting := corners.filter fun c => (f c).code == 2
        staggered := PerCorner.all none }
    monitor := PerCorner.all { settle := 0, deviation := 0, stuck := 0, test := none }
    gate := { isOpen := true, cause := .reset } }

/-- All four corners in HOLD. -/
def held : State := driven fun _ => .hold

/-- FL and FR in BOOST, RL in WAIT with request base 400, RR in FAULT. -/
def boosting : State :=
  driven fun c =>
    match c with
    | .fl => .boost 5
    | .fr => .boost 5
    | .rl => .wait 400
    | .rr => .fault

/-- A state with one staggered update outstanding. -/
def owed (c : Corner) (target : Nat) (s : State) : State :=
  s.setStaggered ((PerCorner.all none).set c (some { target := target, offset := 500 }))

def request (code : BitVec 7) (ops : List Nat) : Request :=
  { tag := 7#8, quiet := false, command := code, operands := words ops, port := .port1 }

/-- One request of this command waits in the queue. -/
def asking (code : BitVec 7) (ops : List Nat) (s : State) : State :=
  { s with mgmt := { s.mgmt with queue := [request code ops] } }

def frame (kind : BitVec 3) (ident : Nat) (payload : List Nat) : Frame :=
  sealFrame (headerWord kind (BitVec.ofNat 4 payload.length) (BitVec.ofNat 9 ident) :: words payload)

/-- A whole frame received on port 1, read before it is forwarded. -/
def rx (f : Frame) : Instr := .receptionCompletion .port1 f true true true

/-- A state whose port 2 holds this many frames to forward, and is sending one. -/
def fifoOf (n : Nat) (s : State) : State :=
  s.setPort .port2
    { PortUnit.reset with
      fifo := List.replicate n [0#16, 0#16]
      line := some { frame := [0#16, 0#16], inserted := false } }

/-- A cycle whose travels are 100, accelerations 100 and speed 1500, all fresh. -/
def cycle (hold : Bool) (number : Count) : Cycle :=
  { bank := bank, programme := .balanced, k := 2,
    snapshot := PerSignal.ofFn fun g =>
      { value := match g with | .speed => 1500 | _ => 100
        age := 0
        stale := false }
    seq := 9#16, number := number, hold := hold }

/-- A state whose engine computes this cycle. -/
def computing (y : Cycle) (s : State) : State := { s with engine := { s.engine with computing := some y } }

/-- A monitor test of FL, its request in execution. -/
def testing (judged deviation : Nat) : State :=
  { held with
    monitor := held.monitor.set .fl
      { settle := 0, deviation := deviation, stuck := 0, test := some { direction := .high, judged := judged } }
    mgmt := { held.mgmt with executing := some (request codeMonitorTest [0, 0]) } }

/-- The result nibble of the REPLY that a port has on its line. -/
def replied (p : Port) (t : State) : Option (BitVec 4) :=
  (t.port p).line.map fun x => ((framePayload x.frame).headD 0#16).extractLsb' 4 4

/-- The data words of the REPLY that port 1 has on its line. -/
def replyData (t : State) : List Word :=
  match (t.port .port1).line with
  | none => []
  | some x => (framePayload x.frame).tail

/-! ### Well-formed commands, the step, and the word table -/

theorem test_illFormed_sample_is_refused :
    (Instr.supplyMeasurement 20000).wellFormed = true ∧ (Instr.supplyMeasurement 20001).wellFormed = false ∧
      exec (.supplyMeasurement 20001) base = .fault .illFormed := by
  refine ⟨by decide, by decide, rfl⟩

theorem test_no_word_spells_a_command : decodeTableWord 16 0 = none ∧ State.withFetchWord base 16 0 = base := by
  exact ⟨rfl, rfl⟩

theorem test_step_takes_the_front :
    after (step { base with pending := [.resetLineReset, .nop] }) (fun t => t.pending == [.nop] && t.resetInProgress)
      = true ∧ step base = .next base := by
  exact ⟨by decide +kernel, rfl⟩

/-! ### Resets -/

theorem test_powerOnReset_then_straps :
    after (exec .powerOnReset held) (fun t => t.resetInProgress && t.mgmt.flags == 1#16 && t.tables.active == Bank.zero &&
      after (exec (.resetEnd 5#6) t) fun u => u.link.nodeAddress == 5#6 && !u.resetInProgress) = true := by
  decide +kernel

theorem test_resetLineReset_keeps_the_bank :
    after (exec .resetLineReset held) (fun t => t.tables.active == bank && t.tables.activeValid &&
      t.gate == Gate.reset && after (exec (.resetEnd 5#6) t) fun u => (u.corner .rl).periodLength == 200) = true := by
  decide +kernel

theorem test_nothing_acts_in_a_reset :
    exec (.supplyMeasurement 1) { held with resetInProgress := true } = .next { held with resetInProgress := true } ∧
      exec (.resetEnd 5#6) held = .next held := by
  exact ⟨rfl, rfl⟩

/-! ### The link -/

theorem test_reception_outcomes :
    after (exec (.receptionCompletion .port1 [1#16, 2#16] true true false) base)
      (fun t => (t.port .port1).counters.check == 1 && Flag.checkErrors.isSet t.mgmt.flags) = true ∧
    after (exec (rx (sealFrame [headerWord 3#3 2#4 5#9, 1#16])) base)
      (fun t => (t.port .port1).counters.format == 1) = true ∧
    after (exec (rx (frame 2#3 0 [0])) base)
      (fun t => (t.port .port1).counters.consumed == 1 && t.mgmt.queue.length == 1) = true ∧
    after (exec (rx (frame 3#3 5 [1, 2])) (fifoOf 8 base))
      (fun t => (t.port .port1).counters.full == 1 && Flag.fullDrops.isSet t.mgmt.flags) = true ∧
    after (exec (rx (frame 3#3 5 [1, 2])) (fifoOf 7 base))
      (fun t => (t.port .port1).counters.accepted == 1 && (t.port .port2).fifo.length == 8) = true := by
  decide +kernel

theorem test_check_word_guards_a_frame : checkWord (words [0x3132, 0x3334]) = 0x5349#16 ∧
    passesCheck (frame 2#3 0 [0]) true true = true ∧ passesCheck (frame 2#3 0 [0]) false true = false := by
  decide +kernel

theorem test_transmitCompletion_counts :
    exec (.transmitCompletion .port1) base = .next base ∧
    after (exec (.transmitCompletion .port2) (fifoOf 2 base)) (fun t =>
      (t.port .port2).counters.sentForwarded == 1 && (t.port .port2).fifo.length == 1 && (t.port .port2).line.isSome)
      = true ∧
    after (exec (.transmitCompletion .port2) (base.setPort .port2
        { PortUnit.reset with line := some { frame := [1#16], inserted := true } })) (fun t =>
      (t.port .port2).counters.sentInserted == 1 && (t.port .port2).line.isNone) = true := by
  exact ⟨rfl, by decide +kernel, by decide +kernel⟩

theorem test_arbiter_at_the_wait_limit :
    (PortUnit.start { PortUnit.reset with fifo := [[1#16]], insert := [[2#16]], waitCount := 3 }).line =
      some { frame := [2#16], inserted := true } ∧
    (PortUnit.start { PortUnit.reset with fifo := [[1#16]], insert := [[2#16]], waitCount := 2 }).waitCount = 3 := by
  decide +kernel

/-- Frames in port 1's insert queue beside one on the line. -/
def insertOf (n : Nat) : State :=
  base.setPort .port1
    { PortUnit.reset with
      insert := List.replicate n [0#16]
      line := some { frame := [0#16], inserted := true } }

theorem test_insert_queue_admission :
    ((offerFrame 4 .port1 [5#16] (insertOf 3)).port .port1).insert.length = 4 ∧
    ((offerFrame 4 .port1 [5#16] (insertOf 4)).port .port1).counters.insertLost = 1 ∧
    ((offerFrame 2 .port1 [5#16] (insertOf 1)).port .port1).insert.length = 2 ∧
    ((offerFrame 2 .port1 [5#16] (insertOf 2)).port .port1).counters.insertLost = 1 ∧
    (answer { request codeNop [] with quiet := true } .ok [] base) = base := by
  exact ⟨by decide +kernel, by decide +kernel, by decide +kernel, by decide +kernel, rfl⟩

theorem test_reply_of_seven_words :
    (words [1, 2, 3, 4, 5, 6, 7]).length ≤ 7 ∧
      headerLength (frameHeader (replyFrame 5#6 9#8 .busy (words [1, 2, 3, 4, 5, 6, 7]))) = 8 ∧
      (framePayload (replyFrame 5#6 9#8 .busy (words [1]))) = words [9 * 256 + 16, 1] := by
  decide +kernel

theorem test_every_read_frame_is_forwarded :
    ((fifoOf 7 base).port .port2).line ≠ none ∧
    after (exec (rx (frame 0#3 40 [1])) (fifoOf 7 base)) (fun t =>
      (t.port .port2).fifo == List.replicate 7 [0#16, 0#16] ++ [frame 0#3 40 [1]]) = true ∧
    after (exec (rx (frame 1#3 20 [1])) (fifoOf 0 base)) (fun t =>
      (t.port .port2).fifo == [frame 1#3 20 [1]] && t.engine.computing.isSome) = true ∧
    after (exec (rx (frame 1#3 20 [1])) (fifoOf 8 base)) (fun t =>
      (t.port .port2).fifo.length == 8 && Flag.fullDrops.isSet t.mgmt.flags && t.engine.computing.isSome) = true ∧
    after (exec (rx (frame 0#3 40 [7])) base) (fun t =>
      (t.port .port2).line == some ⟨frame 0#3 40 [7], false⟩ && (t.capture.live.get .travelFL).value == 7) = true := by
  decide +kernel

theorem test_check_needs_two_words_and_the_check_word :
    passesCheck (words [65535]) true true = false ∧ passesCheck [7#16, checkWord [7#16]] true true = true ∧
      passesCheck [7#16, checkWord [7#16]] true false = false ∧ passesCheck [7#16, 0#16] true true = false ∧
      wellFormatted [headerWord 0#3 1#4 5#9, 9#16, 0#16] = true ∧
      wellFormatted [headerWord 0#3 0#4 5#9, 9#16, 0#16] = false ∧
      (headerWord 4#3 8#4 5#9).toNat = 36869 ∧ (requestWord 2#8 true 11#7).toNat = 651 := by
  decide +kernel

/-! ### Signals and arithmetic -/

theorem test_sample_frame_is_served :
    after (exec (rx (frame 0#3 40 [65535, 1300])) base) (fun t =>
      (t.capture.live.get .travelFL).value == -1 && (t.capture.live.get .travelFL).age == 0 &&
      (t.capture.live.get .travelFR).value == 1200 && (t.capture.live.get .travelFR).clamps == 1 &&
      t.capture.short == 2 && Flag.signalClamped.isSet t.mgmt.flags) = true := by
  decide +kernel

theorem test_rows_of_the_signal_map :
    base.tables.activeValid = true ∧ State.reset.tables.activeValid = false ∧
      base.tables.row .travelFR = .mapped 40 1 256 0 ∧ base.tables.row .speed = .mapped 50 2 64 0 ∧
      base.tables.row .accelRL = .unmapped ∧ { base.tables with activeValid := false }.row .speed = .unmapped ∧
      { bank with t0 := words [0xFFFF, 65535, 65535, 32768] }.row .travelFL = .mapped 511 65535 (-1) (-32768) := by
  decide +kernel

theorem test_signals_clamp_at_their_ranges :
    clampSignal .travelRR 1200 = 1200 ∧ clampSignal .travelRR 1201 = 1200 ∧ clampSignal .travelFL (-1201) = -1200 ∧
      clampSignal .accelFL 30001 = 30000 ∧ clampSignal .accelRR (-30001) = -30000 ∧ clampSignal .speed 9001 = 9000 ∧
      clampSignal .speed (-2001) = -2000 := by
  decide +kernel

theorem test_rounding_halves :
    roundAway 5 2 = 3 ∧ roundAway (-5) 2 = -3 ∧ roundHalfUp 5 2 = 3 ∧ interpolate 0 3 128 = 2 ∧
      interpolate 3 0 128 = 2 ∧ interpolate 7 9 256 = 9 := by
  decide +kernel

/-! ### Marks and silence -/

/-- A baseline of 10. -/
def based (s : State) : State := { s with timing := { s.timing with baseline := some 10#16 } }

/-- The mark of source A with this sequence number, received in a state, served with this k. -/
def servedWith (s : State) (seq k : Nat) : Bool :=
  after (exec (rx (frame 1#3 20 [seq])) s) fun t =>
    (t.engine.computing.map fun y => (y.k, y.hold)) == some (k, false) && t.timing.served == 1 &&
      t.timing.baseline == some (BitVec.ofNat 16 seq)

theorem test_marks_at_each_distance :
    servedWith base 10 1 = true ∧ servedWith (based base) 11 1 = true ∧ servedWith (based base) 12 2 = true ∧
      servedWith (based base) 14 4 = true ∧ servedWith (based base) 15 4 = true ∧
      servedWith (based base) 32777 4 = true ∧ servedWith (based base) 32778 1 = true ∧
      after (exec (rx (frame 1#3 20 [10])) (based base)) (fun t => t.timing.duplicate == 1) = true := by
  decide +kernel

theorem test_mark_is_skipped_while_computing :
    after (exec (rx (frame 1#3 20 [11])) (computing (cycle false 4) (based base))) (fun t =>
      t.timing.skipped == 1 && t.timing.baseline == some 10#16 && Flag.markSkipped.isSet t.mgmt.flags) = true ∧
    markSource base.tables 20 = some .a ∧ markSource base.tables 21 = some .b := by
  decide +kernel

theorem test_mark_of_neither_source_is_forwarded :
    markSource base.tables 30 = none ∧ markSource State.reset.tables 0 = none ∧
    markSource { base.tables with active := { bank with t1 := words [2000, 3, 6, 20, 0, 10, 0, 0] } } 0 = none ∧
    after (exec (rx (frame 1#3 30 [11])) (fifoOf 0 base)) (fun t =>
      t.timing == base.timing && t.engine == base.engine && (t.port .port2).fifo == [frame 1#3 30 [11]]) = true ∧
    after (exec (rx (frame 1#3 0 [11])) State.reset) (fun t =>
      t.timing == State.reset.timing && (t.port .port2).line == some ⟨frame 1#3 0 [11], false⟩) = true := by
  decide +kernel

/-- STAGED differs from ACTIVE in the stale limit alone, and its COMMIT waits. -/
def committing (s : State) : State :=
  { s with
    tables :=
      { s.tables with staged := { bank with t1 := words [2000, 4, 6, 20, 21, 10, 0, 0] }, commitPending := true }
    mgmt := { s.mgmt with executing := some (request codeCommit []) } }

theorem test_mark_takes_a_pending_change :
    after (exec (rx (frame 1#3 20 [11])) (committing (based base))) (fun t =>
      (t.engine.computing.map fun y => (y.bank.staleLimit, y.hold)) == some (4, true) && !t.tables.commitPending &&
        replied .port1 t == some 0#4 && t.mgmt.executing == none) = true ∧
    after (exec (rx (frame 1#3 20 [11]))
      { base with
        engine := { base.engine with pendingProgramme := some .firm }
        mgmt := { base.mgmt with executing := some (request codeSetProgramme [2]) } }) (fun t =>
      (t.engine.computing.map fun y => (y.programme, y.hold)) == some (.firm, true) && t.engine.programme == .firm &&
        replied .port1 t == some 0#4) = true := by
  decide +kernel

/-- The programme FIRM waits, its request of port 2 in execution. -/
def choosing (quiet : Bool) (s : State) : State :=
  { s with
    engine := { s.engine with pendingProgramme := some .firm }
    mgmt :=
      { s.mgmt with
        executing := some { request codeSetProgramme [2] with quiet := quiet, port := .port2 } } }

theorem test_mark_with_a_pending_programme_is_judged_and_answered :
    after (exec (rx (frame 1#3 20 [13])) (choosing false (based base))) (fun t =>
      (t.engine.computing.map fun y => (y.k, y.hold)) == some (3, true) && Flag.markGap.isSet t.mgmt.flags &&
        t.timing.baseline == some 13#16 && t.timing.served == 1 && t.timing.reportPort == .port1 &&
        replied .port2 t == some 0#4 && (t.port .port2).fifo == [frame 1#3 20 [13]]) = true ∧
    after (exec (.receptionCompletion .port1 (frame 1#3 20 [13]) true true false) (choosing false (based base))) (fun t =>
      (t.port .port2).line == some ⟨frame 1#3 20 [13], false⟩ && (t.port .port2).insert.length == 1) = true ∧
    after (exec (rx (frame 1#3 20 [13])) (choosing true (based base))) (fun t =>
      (t.port .port2).insert == [] && t.mgmt.executing == none && (t.port .port1).line == none) = true ∧
    after (exec (rx (frame 1#3 20 [16])) (committing (based base))) (fun t =>
      (t.engine.computing.map fun y => (y.k, y.hold)) == some (4, true) && Flag.markGap.isSet t.mgmt.flags) = true := by
  decide +kernel

theorem test_marks_of_other_sources :
    after (exec (rx (frame 1#3 21 [11])) { base with timing := { base.timing with sources := ⟨.alive 10, .alive 9⟩ } })
      (fun t => t.timing.sources.b == .alive 10 && t.engine.computing == none) = true ∧
    after (exec (rx (frame 1#3 20 [])) base) (fun t => t.timing == base.timing) = true ∧
    after (exec (rx (frame 1#3 21 [])) base) (fun t => t.timing.sources.b == .alive 10 && t.timing.selected == some .a)
      = true ∧
    after (exec (rx (frame 1#3 20 []))
      { base with timing := { base.timing with sources := ⟨.silent, .alive 9⟩, selected := some .b } }) (fun t =>
        t.timing.selected == some .a && t.timing.holdRequest && Flag.sourceSwitch.isSet t.mgmt.flags) = true := by
  decide +kernel

/-- A SILENT, B ALIVE and selected; or no source at all. -/
def onB : State := { base with timing := { base.timing with sources := ⟨.silent, .alive 9⟩, selected := some .b } }
def onNone : State := { base with timing := { base.timing with sources := ⟨.silent, .silent⟩, selected := none } }

theorem test_selections_of_silent_sources : SelectionInv base ∧ SelectionInv onB ∧ SelectionInv onNone := by
  exact ⟨rfl, rfl, rfl⟩

theorem test_first_mark_of_a_silent_source :
    after (exec (rx (frame 1#3 20 [7])) (based onB)) (fun t =>
      (t.engine.computing.map fun y => (y.k, y.hold)) == some (1, true) && t.timing.selected == some .a &&
        t.timing.baseline == some 7#16 && !t.timing.holdRequest && Flag.sourceSwitch.isSet t.mgmt.flags) = true ∧
    after (exec (rx (frame 1#3 21 [7])) onNone) (fun t =>
      (t.engine.computing.map fun y => (y.k, y.hold)) == some (1, true) && t.timing.selected == some .b) = true ∧
    after (exec (rx (frame 1#3 21 [7])) base) (fun t =>
      t.engine.computing == none && t.timing.sources.b == .alive 10 && t.timing.selected == some .a) = true ∧
    after (exec (rx (frame 1#3 20 [7])) (computing (cycle false 4) (based onB))) (fun t =>
      t.timing.skipped == 1 && t.timing.baseline == none && t.timing.holdRequest) = true := by
  decide +kernel

theorem test_first_mark_of_a_silent_source_takes_a_pending_change :
    after (exec (rx (frame 1#3 20 [7])) (committing onB)) (fun t =>
      (t.engine.computing.map fun y => (y.bank.staleLimit, y.k, y.hold)) == some (4, 1, true)) = true ∧
    after (exec (rx (frame 1#3 20 [7]))
      { onB with
        engine := { onB.engine with pendingProgramme := some .firm }
        mgmt := { onB.mgmt with executing := some (request codeSetProgramme [2]) } }) (fun t =>
      (t.engine.computing.map fun y => (y.programme, y.k, y.hold)) == some (.firm, 1, true)) = true ∧
    after (exec (rx (frame 1#3 20 [7])) (committing onB)) (fun t =>
      replied .port1 t == some 0#4 && t.timing.selected == some .a && t.timing.baseline == some 7#16 &&
        !t.timing.holdRequest && t.timing.served == 1) = true ∧
    after (exec (rx (frame 1#3 20 [7])) (choosing false (based onB))) (fun t =>
      replied .port2 t == some 0#4 && !Flag.markGap.isSet t.mgmt.flags) = true := by
  decide +kernel

/-- Both sources ALIVE, A selected. -/
def twoSources : State := { held with timing := { held.timing with sources := ⟨.alive 10, .alive 10⟩ } }

theorem test_silence_of_each_source :
    SelectionInv twoSources ∧ SelectionInv held ∧
    after (exec (.silenceTimerExpiry .a false) twoSources) (fun t =>
      t.timing.selected == some .b && t.timing.holdRequest && Flag.sourceSwitch.isSet t.mgmt.flags && t.gate.isOpen)
      = true ∧
    after (exec (.silenceTimerExpiry .b false) twoSources) (fun t =>
      t.timing.selected == some .a && t.timing.sources.b == .silent) = true ∧
    after (exec (.silenceTimerExpiry .a true) held) (fun t =>
      t.timing.selected == none && t.gate == { isOpen := false, cause := .marksSilent } &&
        (t.corner .rr).state == .off && (t.corner .rr).target == 700) = true ∧
    after (exec (.silenceTimerExpiry .a true) (committing held)) (fun t =>
      !t.gate.isOpen && t.tables.active.staleLimit == 4 && t.mgmt.executing == none) = true ∧
    exec (.silenceTimerExpiry .b false) held = .next held := by
  exact ⟨rfl, rfl, by decide +kernel, by decide +kernel, by decide +kernel, by decide +kernel, rfl⟩

theorem test_loss_of_the_source_answers_a_pending_change :
    after (exec (.silenceTimerExpiry .a true) (committing held)) (fun t => replied .port1 t == some 0#4) = true ∧
    after (exec (.silenceTimerExpiry .a false) (choosing false held)) (fun t =>
      replied .port2 t == some 0#4 && t.engine.programme == .firm && t.mgmt.executing == none) = true ∧
    after (exec (.silenceTimerExpiry .a false) (choosing true held)) (fun t => t.link == held.link) = true ∧
    after (exec (.silenceTimerExpiry .a false) held) (fun t => t.link == held.link) = true ∧
    NoTest (committing held) ∧ NoTest (choosing true held) ∧ NoTest (committing onB) := by
  refine ⟨by decide +kernel, by decide +kernel, by decide +kernel, by decide +kernel, ?_, ?_, ?_⟩ <;> intro c <;>
    cases c <;> decide +kernel

/-! ### The control cycle -/

theorem test_completion_delivers :
    AtCompletion (computing (cycle false 4) held) (cycle false 4) ∧
    after (exec .computationCompletion (computing (cycle false 4) held)) (fun t =>
      t.engine.computing == none && t.engine.lookupSpeed == 1500 && t.engine.odometer == 60000#32 &&
        t.engine.cBase == 1650 && (t.engine.est.get .fl).seeded && t.engine.previewActive &&
        (t.engine.results.get .fl).target == (t.corner .fl).target) = true ∧
    exec .computationCompletion held = .next held := by
  exact ⟨⟨rfl, rfl⟩, by decide +kernel, rfl⟩

theorem test_hold_cycle_reports_and_delivers_nothing :
    AtCompletion (computing (cycle true 4) held) (cycle true 4) ∧ (cycle true 4).hold = true ∧
    after (exec .computationCompletion (computing (cycle true 4) held)) (fun t =>
      t.drive == held.drive && (t.port .port1).line.isSome) = true ∧
    after (exec .computationCompletion (computing
        { cycle true 5 with bank := { bank with t1 := words [2000, 3, 6, 20, 21, 10, 1, 0] } } held)) (fun t =>
      (t.port .port1).line.isNone) = true := by
  exact ⟨⟨rfl, rfl⟩, rfl, by decide +kernel, by decide +kernel⟩

/-- The same cycle with a travel or the speed STALE, or the speed changed. -/
def cycleWith (g : Signal) (v : Int) (stale : Bool) : Cycle :=
  { cycle false 4 with snapshot := (cycle false 4).snapshot.set g { value := v, age := 0, stale := stale } }

/-- FL seeded at a travel of 90. -/
def seeded : State :=
  { held with
    engine := { held.engine with est := held.engine.est.set .fl { Estimation.reset with xPrev := 90, seeded := true } } }

theorem test_velocity_of_stale_fresh_and_seeded_travel :
    after (exec .computationCompletion (computing (cycleWith .travelFL 100 true) seeded)) (fun t =>
      !(t.engine.est.get .fl).seeded && (t.engine.est.get .fl).xPrev == 90 &&
        (t.engine.results.get .fl).source == .fallback && (t.engine.results.get .fl).target == 1000) = true ∧
    after (exec .computationCompletion (computing (cycle false 4) seeded)) (fun t =>
      (t.engine.est.get .fl).lastVd == 250 && (t.engine.est.get .fr).lastVd == 0 &&
        (t.engine.est.get .fl).vbQ == 102) = true := by
  decide +kernel

theorem test_preview_below_minimum_speed_flushes :
    after (exec .computationCompletion (computing (cycleWith .speed 499 false) held)) (fun t => !t.engine.previewActive)
      = true ∧
    after (exec .computationCompletion (computing (cycleWith .speed 500 false) held)) (fun t => t.engine.previewActive)
      = true ∧
    after (exec .computationCompletion (computing (cycleWith .speed 0 false) held)) (fun t => t.engine.odometer == 0)
      = true ∧
    after (exec .computationCompletion (computing (cycleWith .speed 1500 true) held)) (fun t => t.engine.odometer == 0)
      = true := by
  decide +kernel

/-- An entry of the LEFT side appended at odometer 0. -/
def entry (peak : Nat) : PreviewEntry := { side := .left, kind := .bump, stamp := 0, peak := peak, isOpen := true }

theorem test_due_entries_and_bands :
    bank.bandBound 0 < bank.bandBound 1 ∧ bank.bandBound 1 < bank.bandBound 2 ∧ bank.bandBound 2 < bank.bandBound 3 ∧
    (takeDue bank 2999999 [entry 500] ⟨Window.reset, Window.reset⟩).1.length = 1 ∧
    (takeDue bank 3000000 [entry 500] ⟨Window.reset, Window.reset⟩).2.left = { remaining := 10, scale := 128 } ∧
    (takeDue bank 2147483648 [entry 500] ⟨Window.reset, Window.reset⟩).1.length = 1 ∧
    bandOf bank 399 = none ∧ bandOf bank 400 = some 0 ∧ bandOf bank 499 = some 0 ∧ bandOf bank 1200 = some 3 ∧
    (applyEntry bank (entry 400) ⟨{ remaining := 3, scale := 100 }, Window.reset⟩).left =
      { remaining := 6, scale := 100 } := by
  decide +kernel

/-- An engine whose FL damper velocity is `v`, LEFT in the event state given, with `n` closed entries. -/
def frontAt (v : Int) (e : EventState) (n : Nat) : Engine :=
  { State.reset.engine with
    est := State.reset.engine.est.set .fl { Estimation.reset with lastVd := v }
    sides := ⟨e, .armed⟩
    queue := List.replicate n { entry 500 with isOpen := false } }

theorem test_front_events_at_the_trigger :
    detectSide (cycle false 4) .left (frontAt (-299) .armed 0) = frontAt (-299) .armed 0 ∧
    (detectSide (cycle false 4) .left (frontAt (-300) .armed 15)).queue.length = 16 ∧
    (detectSide (cycle false 4) .left (frontAt 300 .armed 16)).previewFull = 1 ∧
    (detectSide (cycle false 4) .left (frontAt 149 .inEvent 1)).sides.left = .armed ∧
    (detectSide (cycle false 4) .left (frontAt 150 .inEvent 1)).sides.left = .inEvent ∧
    (detectSide (cycleWith .travelFL 0 true) .left (frontAt 900 .inEvent 1)).sides.left = .armed := by
  decide +kernel

/-- FL moves at 500 mm/s in the next cycle, at an odometer of 2999999, with this many entries waiting. -/
def rolling (n : Nat) : State :=
  { held with
    engine :=
      { held.engine with
        est := held.engine.est.set .fl { Estimation.reset with xPrev := 80, seeded := true }
        odometer := 2999999
        queue := List.replicate n (entry 500) } }

/-- Every entry is still too young. -/
def young (n : Nat) : State := { rolling n with engine := { (rolling n).engine with odometer := 0 } }

theorem test_active_preview_takes_and_detects :
    after (exec .computationCompletion (computing (cycle false 4) (rolling 1))) (fun t =>
      t.engine.previewActive && t.engine.queue.length == 1 && t.engine.sides.left == .inEvent &&
        t.engine.windows.left == { remaining := 8, scale := 128 }) = true ∧
    after (exec .computationCompletion (computing (cycle false 4) (young 15))) (fun t =>
      t.engine.queue.length == 16 && !Flag.previewFull.isSet t.mgmt.flags) = true ∧
    after (exec .computationCompletion (computing (cycle false 4) (young 16))) (fun t =>
      t.engine.previewFull == 1 && Flag.previewFull.isSet t.mgmt.flags) = true := by
  decide +kernel

theorem test_delivering_cycle_reports_its_targets :
    after (exec .computationCompletion (computing (cycle false 4) held)) (fun t =>
      ((t.port .port1).line.map fun x => ((framePayload x.frame).take 1, (framePayload x.frame)[2]?)) ==
        some (words [0x8000 + 3 * 4096 + 1024 + 256], some (natWord (t.corner .fl).target))) = true := by
  decide +kernel

theorem test_schedule_and_map_at_their_points :
    scheduleAt bank .balanced 0 2 = 1800 ∧ scheduleAt bank .balanced 1000 2 = 1700 ∧
      scheduleAt bank .balanced 7000 2 = 1100 ∧ scheduleAt bank .balanced 1500 2 = 1650 ∧
      mapCurrentAt bank .front 0 0 = 300 ∧ mapCurrentAt bank .front 700 3500 = 930 ∧
      mapCurrentAt bank .rear 50 250 = 345 ∧ mapCurrentAt bank .rear 700 250 = 865 ∧
      mapCurrentAt bank .rear 50 4000 = 410 := by
  decide +kernel

theorem test_schedule_of_the_cycle_rises : ∀ j, j < 7 → bank.schedule .balanced j 0 < bank.schedule .balanced (j + 1) 0 := by
  decide +kernel

theorem test_map_axes_rise :
    ∀ n, n < 7 → bank.velocityPoint .rear n < bank.velocityPoint .rear (n + 1) ∧
      bank.forcePoint .rear n < bank.forcePoint .rear (n + 1) := by
  decide +kernel

/-! ### Targets and boosts -/

theorem test_no_test_runs : NoTest held ∧ NoTest boosting ∧ NoTest base := by
  refine ⟨?_, ?_, ?_⟩ <;> intro c <;> cases c <;> decide +kernel

theorem test_held_meets_the_arbiter_laws : ArbiterLaws held ∧ ArbiterLaws (testing 6 0) := by
  refine ⟨⟨by decide +kernel, fun c => ?_, by decide +kernel, by decide +kernel, fun c => ?_, by decide +kernel⟩,
    ⟨by decide +kernel, fun c => ?_, by decide +kernel, by decide +kernel, fun c => ?_, by decide +kernel⟩⟩ <;>
    cases c <;> exact ⟨fun h => absurd h (by decide +kernel), fun h => by obtain ⟨t, h⟩ := h; cases h⟩

theorem test_boosting_meets_the_boost_laws : DriveInv boosting := by
  refine ⟨⟨by decide +kernel, ?_, by decide +kernel, by decide +kernel, ?_, by decide +kernel⟩, ?_, ?_⟩
  · intro c
    cases c
    · exact ⟨fun _ => ⟨5, rfl⟩, fun _ => by decide +kernel⟩
    · exact ⟨fun _ => ⟨5, rfl⟩, fun _ => by decide +kernel⟩
    · exact ⟨fun h => absurd h (by decide +kernel), fun h => by obtain ⟨t, h⟩ := h; cases h⟩
    · exact ⟨fun h => absurd h (by decide +kernel), fun h => by obtain ⟨t, h⟩ := h; cases h⟩
  · intro c
    cases c
    · exact ⟨fun h => absurd h (by decide +kernel), fun h => by obtain ⟨t, h⟩ := h; cases h⟩
    · exact ⟨fun h => absurd h (by decide +kernel), fun h => by obtain ⟨t, h⟩ := h; cases h⟩
    · exact ⟨fun _ => ⟨400, rfl⟩, fun _ => by decide +kernel⟩
    · exact ⟨fun h => absurd h (by decide +kernel), fun h => by obtain ⟨t, h⟩ := h; cases h⟩
  · intro h
    cases h
  · intro c
    cases c <;> decide +kernel

theorem test_staggered_update_of_a_held_corner :
    after (exec (.staggeredUpdate .fr) (owed .fr 899 held)) (fun t =>
      (t.corner .fr).state == .hold && (t.corner .fr).target == 899) = true ∧
    after (exec (.staggeredUpdate .fr) (owed .fr 900 held)) (fun t =>
      (t.corner .fr).state == .boost 5 && (t.corner .fr).duty == 980 && t.drive.slots == [.fr]) = true ∧
    after (exec (.staggeredUpdate .rr) (owed .rr 900 (driven fun c => if c = .fl ∨ c = .fr then .boost 5 else .hold)))
      (fun t => (t.corner .rr).state == .wait 700 && t.drive.waiting == [.rr]) = true ∧
    after (exec (.staggeredUpdate .rr) (owed .rr 900 boosting)) (fun t => (t.corner .rr).state == .fault) = true ∧
    exec (.staggeredUpdate .rr) held = .next held := by
  exact ⟨by decide +kernel, by decide +kernel, by decide +kernel, by decide +kernel, rfl⟩

theorem test_staggered_update_of_a_waiting_and_a_boosted_corner :
    after (exec (.staggeredUpdate .rl) (owed .rl 600 boosting)) (fun t =>
      (t.corner .rl).state == .wait 400 && (t.corner .rl).target == 600) = true ∧
    after (exec (.staggeredUpdate .rl) (owed .rl 599 boosting)) (fun t =>
      (t.corner .rl).state == .hold && t.drive.waiting == []) = true ∧
    after (exec (.staggeredUpdate .fr) (owed .fr 700 boosting)) (fun t => (t.corner .fr).state == .boost 5) = true ∧
    after (exec (.staggeredUpdate .fr) (owed .fr 699 boosting)) (fun t =>
      (t.corner .fr).state == .hold && (t.corner .rl).state == .boost 5 && t.drive.slots == [.fl, .rl]) = true := by
  decide +kernel

theorem test_boost_timer_ends_the_boost :
    after (exec (.boostTimerExpiry .fl) boosting) (fun t =>
      (t.corner .fl).state == .hold && (t.corner .fl).timeouts == 1 && Flag.boostTimeout.isSet t.mgmt.flags &&
        t.drive.slots == [.fr, .rl]) = true ∧
    exec (.boostTimerExpiry .rr) boosting = .next boosting := by
  exact ⟨by decide +kernel, rfl⟩

theorem test_feed_forward_duty : feedForward base .fl 700 = 187 ∧ feedForward base .fl 5000 = 980 ∧ 0 < base.supply.sample := by
  decide +kernel

theorem test_together_delivery_ranks :
    (deliverTogether ⟨900, 1200, 1000, 700⟩ held).drive.slots = [.fr, .rl] ∧
      (deliverTogether ⟨900, 1200, 1000, 700⟩ held).drive.waiting = [.fl] ∧
      held.drive.slots = [] ∧ held.drive.waiting = [] ∧ (held.corner .rr).state = .hold ∧
      rank (fun c => if c = .rr then 5 else 3) corners = [.rr, .fl, .fr, .rl] := by
  decide +kernel

theorem test_together_delivery_at_every_state :
    (deliverTogether ⟨699, 700, 600, 1000⟩ boosting).drive.slots = [.fr, .rl] ∧
      ((deliverTogether ⟨699, 700, 600, 1000⟩ boosting).corner .fl).state = .hold ∧
      ((deliverTogether ⟨699, 700, 600, 1000⟩ boosting).corner .rl).target = 600 ∧
      (deliverTogether ⟨699, 700, 600, 1000⟩ boosting).corner .rr = boosting.corner .rr ∧
      (deliverTogether ⟨700, 800, 600, 1000⟩ boosting).drive.waiting = [.rl] ∧
      ((deliverTogether ⟨700, 800, 599, 1000⟩ boosting).corner .rl).state = .hold := by
  decide +kernel

theorem test_together_order_delivers_at_once :
    after (exec .computationCompletion (computing (cycle false 4) held)) (fun t =>
      t.drive.staggered == PerCorner.all none &&
        t.drive.corners == (deliverTogether (targetsOf t.engine) held).drive.corners) = true := by
  decide +kernel

theorem test_staggered_order_starts_three_timers :
    after (exec .computationCompletion (computing
        { cycle false 4 with bank := { bank with t1 := words [2000, 3, 6, 20, 21, 10, 0, 1] } } held)) (fun t =>
      (t.drive.staggered.rr.map fun u => u.offset) == some 1500 && t.drive.staggered.fl == none) = true := by
  decide +kernel

/-! ### Measurements -/

/-- The corners listed have been measured, and the duties of FL and RR written since. -/
def measuredAt (cs : List Corner) (s : State) : State :=
  corners.foldl (fun t c => t.setCorner c { t.corner c with periodEnded := cs.contains c, duty := 300 + cornerCode c }) s

theorem test_periods_start_together :
    after (exec (.currentMeasurement .rl 700) (measuredAt [.fl, .fr, .rr] held)) (fun t =>
      corners.all fun c => (t.corner c).outputDuty == 300 + cornerCode c && !(t.corner c).periodEnded) = true ∧
    after (exec (.currentMeasurement .rl 700) (measuredAt [.fl, .fr] held)) (fun t =>
      t.corner .rl == { (measuredAt [.fl, .fr] held).corner .rl with measured := 700, periodEnded := true } &&
        (t.corner .fl).outputDuty == 0 && !(t.corner .rr).periodEnded) = true ∧
    after (exec (.currentMeasurement .fl 700) (measuredAt [.fl, .fr] held)) (fun t =>
      (t.corner .rr).outputDuty == 303 && (t.corner .fl).periodEnded && !(t.corner .fr).periodEnded) = true ∧
    after (exec (.currentMeasurement .rl 2600) (measuredAt [.fl, .fr, .rr] (driven fun _ => .off))) (fun t =>
      corners.all fun c => (t.corner c).periodLength == 200 && !(t.corner c).periodEnded) = true := by
  decide +kernel

theorem test_boost_end_and_grant_reach_the_outputs_at_one_start :
    after (exec (.currentMeasurement .fl 650) (boosting.setCorner .rl { boosting.corner .rl with periodEnded := true }))
      (fun t => (t.corner .rl).state == .boost 5 && (t.corner .rl).duty == 980 && (t.corner .rl).outputDuty == 0 &&
        (t.corner .fl).outputDuty == 0 && (t.corner .fl).periodEnded &&
        after (exec (.currentMeasurement .fr 100) t) fun u => after (exec (.currentMeasurement .rr 0) u) fun v =>
          (v.corner .rl).outputDuty == 980 && (v.corner .fl).outputDuty == (t.corner .fl).duty) = true := by
  decide +kernel

theorem test_boost_ends_at_the_band :
    (boosting.corner .fl).state = .boost 5 ∧
    after (exec (.currentMeasurement .fl 650) boosting) (fun t =>
      (t.corner .fl).state == .hold && (t.corner .fl).measured == 650 && t.drive.slots == [.fr, .rl]) = true ∧
    after (exec (.currentMeasurement .fl 649) boosting) (fun t => (t.corner .fl).state == .boost 5) = true := by
  exact ⟨rfl, by decide +kernel, by decide +kernel⟩

/-- FL's monitor items replaced. -/
def monitoring (settle deviation stuck : Nat) (s : State) : State :=
  s.setMonitor .fl { settle := settle, deviation := deviation, stuck := stuck, test := none }

theorem test_deviation_is_judged :
    after (exec (.currentMeasurement .fl 800) (monitoring 0 3 0 held)) (fun t => (t.monitorOf .fl).deviation == 0) = true ∧
    after (exec (.currentMeasurement .fl 801) (monitoring 0 2 0 held)) (fun t => (t.monitorOf .fl).deviation == 3) = true ∧
    after (exec (.currentMeasurement .fl 801) (monitoring 0 3 0 held)) (fun t =>
      (t.corner .fl).cause == .deviation && (t.corner .fl).state == .fault) = true ∧
    after (exec (.currentMeasurement .fl 49) (monitoring 0 3 0 held)) (fun t => (t.corner .fl).cause == .openCoil) = true ∧
    after (exec (.currentMeasurement .fl 49) (monitoring 1 3 0 held)) (fun t => (t.monitorOf .fl).settle == 0) = true ∧
    after (exec (.currentMeasurement .fl 49)
      (monitoring 0 3 0 { held with tables := { held.tables with activeValid := false } })) (fun t =>
        (t.monitorOf .fl).deviation == 3) = true := by
  decide +kernel

/-- All corners OFF, or all in FAULT. -/
def idle (d : DriveState) : State := driven fun _ => d

theorem test_stuck_current_is_judged :
    after (exec (.currentMeasurement .fl 150) (monitoring 0 0 3 (idle .off))) (fun t => (t.monitorOf .fl).stuck == 0)
      = true ∧
    after (exec (.currentMeasurement .fl 151) (monitoring 0 0 2 (idle .off))) (fun t => (t.monitorOf .fl).stuck == 3)
      = true ∧
    after (exec (.currentMeasurement .fl 151) (monitoring 0 0 3 (idle .off))) (fun t =>
      (t.corner .fl).state == .fault && (t.corner .fl).cause == .stuckOn) = true ∧
    after (exec (.currentMeasurement .fl 151) (monitoring 0 0 3 (idle .fault))) (fun t =>
      (t.monitorOf .fl).stuck == 0 && (t.corner .fl).cause == .stuckOn) = true ∧
    after (exec (.currentMeasurement .fl 151) (monitoring 1 0 3 (idle .off))) (fun t =>
      (t.monitorOf .fl).settle == 0 && (t.monitorOf .fl).stuck == 3) = true ∧
    ((idle .off).corner .fl).duty = 0 ∧ (idle .off).drive.waiting = [] := by
  decide +kernel

theorem test_monitor_test_ends :
    after (exec (.currentMeasurement .fl 700) (testing 3 3)) (fun t =>
      replyData t == words [0, 4] && (t.corner .fl).state == .hold && t.mgmt.executing == none) = true ∧
    after (exec (.currentMeasurement .fl 500) (testing 11 0)) (fun t =>
      replyData t == words [1, 12] && Flag.monitorFailed.isSet t.mgmt.flags) = true ∧
    after (exec (.currentMeasurement .fl 500) (testing 10 0)) (fun t =>
      (t.monitorOf .fl).test == some { direction := .high, judged := 11 }) = true ∧
    after (exec (.staggeredUpdate .fl) (owed .fl 900 (testing 6 0))) (fun t =>
      replied .port1 t == some 5#4 && replyData t == words [6] && (t.monitorOf .fl).test == none) = true := by
  decide +kernel

/-- A monitor test of RL with FL and FR in BOOST. -/
def testingBehind : State :=
  let s := driven fun c => if c = .fl ∨ c = .fr then .boost 5 else .hold
  { s with
    monitor := s.monitor.set .rl
      { settle := 0, deviation := 1, stuck := 0, test := some { direction := .low, judged := 2 } }
    mgmt := { s.mgmt with executing := some (request codeMonitorTest [2, 1]) } }

theorem test_a_test_runs_at_one_corner :
    TestRunsAt (testing 6 0) .fl { direction := .high, judged := 6 } (request codeMonitorTest [0, 0]) ∧
      TestRunsAt testingBehind .rl { direction := .low, judged := 2 } (request codeMonitorTest [2, 1]) ∧
      SelectionInv (testing 6 0) := by
  refine ⟨⟨rfl, rfl, ?_, rfl⟩, ⟨rfl, rfl, ?_, rfl⟩, rfl⟩ <;> intro d <;> cases d <;> intro h <;>
    first | rfl | exact absurd rfl h

theorem test_monitor_test_is_aborted_when_its_corner_leaves_hold :
    after (exec (.staggeredUpdate .rl) (owed .rl 900 testingBehind)) (fun t =>
      replied .port1 t == some 5#4 && replyData t == words [2] && (t.corner .rl).state == .wait 700 &&
        (t.monitorOf .rl).settle == 3) = true ∧
    after (exec (.supplyMeasurement 6999) (testing 6 0)) (fun t =>
      replyData t == words [6] && (t.corner .fl).state == .off && t.mgmt.executing == none) = true ∧
    after (exec (.silenceTimerExpiry .a false) (testing 6 0)) (fun t =>
      replyData t == words [6] && (t.corner .fl).state == .off && t.gate.cause == .marksSilent) = true ∧
    after (exec .computationCompletion (computing (cycleWith .travelFL 0 true) (testing 6 0))) (fun t =>
      replyData t == words [6] && (t.corner .fl).state == .boost 5 && t.mgmt.executing == none) = true := by
  decide +kernel

/-- A delivering cycle with every travel stale: each corner's result is its fallback current. -/
def fallingBack (isStaggered : Bool) : Cycle :=
  { cycle false 4 with
    bank := { bank with t1 := words [2000, 3, 6, 20, 21, 10, 0, if isStaggered then 1 else 0] }
    snapshot := PerSignal.ofFn fun g =>
      { value := match g with | .speed => 1500 | _ => 100
        age := 0
        stale := g == .travelFL || g == .travelFR || g == .travelRL || g == .travelRR } }

/-- A monitor test of FL with FR and RL in BOOST. -/
def testingFull : State :=
  { testing 6 0 with
    drive := (driven fun c => if c = .fr ∨ c = .rl then .boost 5 else .hold).drive }

theorem test_a_test_runs_at_a_full_arbiter :
    TestRunsAt testingFull .fl { direction := .high, judged := 6 } (request codeMonitorTest [0, 0]) :=
  ⟨rfl, rfl, fun d => by cases d <;> intro h <;> first | rfl | exact absurd rfl h, rfl⟩

theorem test_testing_states_meet_the_arbiter_laws : ArbiterLaws testingBehind ∧
    (testing 6 0).drive.slots.length < 2 ∧ 2 ≤ testingFull.drive.slots.length ∧
    .fl ∈ grantedRequests ⟨1000, 1000, 900, 900⟩ (testing 6 0) ∧
    .rl ∈ leftRequests ⟨1000, 1000, 900, 900⟩ testingBehind := by
  refine ⟨⟨by decide +kernel, fun c => ?_, by decide +kernel, by decide +kernel, fun c => ?_, by decide +kernel⟩,
    by decide +kernel, by decide +kernel, by decide +kernel, by decide +kernel⟩
  · cases c
    · exact ⟨fun _ => ⟨5, rfl⟩, fun _ => by decide +kernel⟩
    · exact ⟨fun _ => ⟨5, rfl⟩, fun _ => by decide +kernel⟩
    · exact ⟨fun h => absurd h (by decide +kernel), fun h => by obtain ⟨t, h⟩ := h; cases h⟩
    · exact ⟨fun h => absurd h (by decide +kernel), fun h => by obtain ⟨t, h⟩ := h; cases h⟩
  · cases c <;> exact ⟨fun h => absurd h (by decide +kernel), fun h => by obtain ⟨t, h⟩ := h; cases h⟩

theorem test_completion_aborts_before_it_reports :
    after (exec .computationCompletion (computing (fallingBack false) (testing 6 0))) (fun t =>
      (t.corner .fl).state == .boost 5 && replyData t == words [6] &&
        (t.port .port1).insert == [reportOf (testing 6 0) t (fallingBack false) t.mgmt.flags]) = true ∧
    after (exec .computationCompletion (computing (fallingBack false) testingBehind)) (fun t =>
      targetsOf t.engine == ⟨1000, 1000, 900, 900⟩ && (t.corner .rl).state == .wait 700 &&
        (t.monitorOf .rl).settle == 3) = true ∧
    after (exec .computationCompletion (computing (fallingBack true) (testing 6 0))) (fun t =>
      (t.corner .fl).state == .boost 5) = true ∧
    after (exec .computationCompletion (computing (fallingBack true) testingFull)) (fun t =>
      (t.corner .fl).state == .wait 700 && t.mgmt.executing == none) = true := by
  decide +kernel

theorem test_monitor_test_goes_on :
    after (exec (.staggeredUpdate .fl) (owed .fl 899 (testing 6 2))) (fun t =>
      t.monitorOf .fl ==
          { settle := 3, deviation := 0, stuck := 0, test := some { direction := .high, judged := 6 } } &&
        t.mgmt == (testing 6 2).mgmt) = true ∧
    after (exec (.staggeredUpdate .fl) (owed .fl 700 (testing 6 2))) (fun t => t.monitor == (testing 6 2).monitor)
      = true ∧
    after (exec (.currentMeasurement .fl 0)
      ((testing 6 2).setMonitor .fl { (testing 6 2).monitorOf .fl with settle := 1 })) (fun t =>
        t.monitorOf .fl == (testing 6 2).monitorOf .fl) = true ∧
    after (exec .computationCompletion (computing (cycle false 4) (testing 6 0))) (fun t =>
      ((t.engine.results.get .fl).target : Int) - 700 < 200 && (t.corner .fl).state == .hold &&
        (t.monitorOf .fl).test == some { direction := .high, judged := 6 } && t.mgmt.executing.isSome) = true := by
  decide +kernel

theorem test_supply_cut_switches_the_drives_off :
    after (exec (.supplyMeasurement 6999) boosting) (fun t =>
      t.drive.slots == [] && t.drive.waiting == [] && (t.corner .fl).target == 700 &&
        t.corner .rl == { boosting.corner .rl with state := .off, duty := 0, outputDuty := 0 } &&
        t.corner .rr == boosting.corner .rr && (t.monitorOf .fl).settle == 3) = true := by
  decide +kernel

theorem test_supply_at_its_limits :
    after (exec (.supplyMeasurement 9999) held) (fun t => t.supply.low && t.gate.isOpen &&
      (t.corner .fl).duty == 224) = true ∧
    after (exec (.supplyMeasurement 10299) { held with supply := { sample := 9999, low := true } })
      (fun t => t.supply.low) = true ∧
    after (exec (.supplyMeasurement 10300) { held with supply := { sample := 9999, low := true } })
      (fun t => !t.supply.low) = true ∧
    after (exec (.supplyMeasurement 7000) held) (fun t => t.gate.isOpen) = true ∧
    after (exec (.supplyMeasurement 6999) held) (fun t =>
      t.gate == { isOpen := false, cause := .supplyCut } && Flag.supplyCut.isSet t.mgmt.flags) = true ∧
    after (exec (.supplyMeasurement 6999) base) (fun t => t.gate == base.gate) = true ∧
    after (exec (.supplyMeasurement 6999) State.reset) (fun t => t.supply == { sample := 6999, low := false }) = true := by
  decide +kernel

/-! ### Requests -/

/-- This many requests wait. -/
def queued (n : Nat) : State :=
  { base with mgmt := { base.mgmt with queue := List.replicate n (request codeNop [1]) } }

theorem test_request_joins_or_is_busy :
    after (exec (rx (frame 2#3 0 [])) base) (fun t => (t.port .port1).counters.consumed == 1 && t.mgmt == base.mgmt)
      = true ∧
    after (exec (rx (frame 2#3 0 [0x0105, 2])) (queued 3)) (fun t => t.mgmt.queue.length == 4) = true ∧
    after (exec (rx (frame 2#3 0 [0x0185, 2])) (queued 4)) (fun t => replied .port1 t == some 1#4) = true := by
  decide +kernel

theorem test_abort_empties_the_queue :
    after (exec (rx (frame 2#3 0 [0x020D])) (queued 4)) (fun t =>
      replyData t == words [4, 65535] && t.mgmt.queue == []) = true ∧
    after (exec (rx (frame 2#3 0 [0x020D])) (testing 3 3)) (fun t =>
      replyData t == words [0, 7] && (t.monitorOf .fl).test == none) = true := by
  decide +kernel

theorem test_waiting_requests_meet_their_owners : RequestInv (queued 4) ∧ RequestInv (testing 3 3) := by
  refine ⟨⟨?_, rfl, rfl, ?_⟩, ⟨?_, Or.inr (Or.inr ⟨rfl, rfl, rfl, .fl, ?_⟩)⟩⟩
  · intro c
    cases c <;> decide +kernel
  · intro c
    cases c <;> decide +kernel
  · intro c
    cases c <;> decide +kernel
  · intro d
    cases d <;> decide +kernel

theorem test_request_events_need_their_command :
    exec .load (asking codeNop [] base) = .next (asking codeNop [] base) ∧ exec .nop base = .next base ∧
      exec .unknownCommand (asking codeResetControl [] base) = .next (asking codeResetControl [] base) ∧
      exec .unknownCommand base = .next base ∧ exec .unknownCommand (testing 3 3) = .next (testing 3 3) ∧
      exec .nop (testing 3 3) = .next (testing 3 3) ∧
      AtExecution (asking codeNop [3] base) (request codeNop [3]) [] codeNop := by
  exact ⟨rfl, rfl, rfl, rfl, rfl, rfl, rfl, rfl, rfl, rfl⟩

theorem test_nop_echoes_and_unknown_is_invalid :
    after (exec .nop (asking codeNop [3, 4] base)) (fun t => replyData t == words [3, 4] && replied .port1 t == some 0#4)
      = true ∧
    after (exec .unknownCommand (asking 14#7 [] base)) (fun t => replied .port1 t == some 2#4 && t.mgmt.queue == [])
      = true := by
  decide +kernel

theorem test_load_at_the_end_of_a_table :
    after (exec .load (asking codeLoad [8192 + 7, 1] base)) (fun t =>
      t.tables.staged.t1 == words [2000, 3, 6, 20, 21, 10, 0, 1] && replied .port1 t == some 0#4) = true ∧
    after (exec .load (asking codeLoad [8192 + 7, 1, 1] base)) (fun t =>
      t.tables == base.tables && replied .port1 t == some 2#4) = true ∧
    after (exec .load (asking codeLoad [6 * 8192, 1] base)) (fun t => replied .port1 t == some 2#4) = true ∧
    after (exec .load (asking codeLoad [0] base)) (fun t => replied .port1 t == some 2#4) = true := by
  decide +kernel

theorem test_read_table_answers_the_span :
    after (exec .readTable (asking codeReadTable [0, 1, 1, 7] base)) (fun t =>
      replyData t == words [3, 6, 20, 21, 10, 0, 0]) = true ∧
    after (exec .readTable (asking codeReadTable [1, 5, 15, 2] base)) (fun t => replied .port1 t == some 2#4) = true ∧
    after (exec .readTable (asking codeReadTable [2, 5, 0, 1] base)) (fun t => replied .port1 t == some 2#4) = true ∧
    after (exec .readTable (asking codeReadTable [0, 1, 0, 8] base)) (fun t => replied .port1 t == some 2#4) = true ∧
    after (exec .readTable (asking codeReadTable [0, 6, 0, 1] base)) (fun t => replied .port1 t == some 2#4) = true ∧
    after (exec .readTable (asking codeReadTable [0, 1, 0] base)) (fun t => replied .port1 t == some 2#4) = true := by
  decide +kernel

/-- STAGED holds another T4 and T5: iMax of the front axle 600, preview disabled. -/
def restaged (s : State) : State :=
  { s with
    tables :=
      { s.tables with
        staged :=
          { bank with
            t4 := words [3200, 3200, 3200, 3200, 300, 600, 500, 350, 1500, 900, 200, 200, 50, 5, 100, 3, 4, 10000, 7000, 0]
            t5 := words [0, 300, 3000, 500, 400, 192, 6, 500, 128, 10, 800, 64, 16, 1200, 32, 24] } } }

theorem test_discard_copies_active :
    after (exec .discard (asking codeDiscard [] (restaged base))) (fun t => t.tables.staged == bank) = true ∧
    after (exec .discard (asking codeDiscard [] { base with tables := { (restaged base).tables with commitPending := true } }))
      (fun t => t.tables.staged == (restaged base).tables.staged) = true := by
  decide +kernel

theorem test_bank_is_validated : bank.validated ∧ (restaged base).tables.staged.validated := by
  refine ⟨⟨?_, ?_⟩, ⟨?_, ?_⟩⟩ <;> decide +kernel

/-- No source selected. -/
def unselected (s : State) : State :=
  { s with timing := { s.timing with sources := ⟨.silent, .silent⟩, selected := none } }

theorem test_commit_rejects_swaps_or_waits :
    after (exec .commit (asking codeCommit [] { base with tables := { base.tables with staged := Bank.zero } })) (fun t =>
      replyData t == words [1, 0] && replied .port1 t == some 4#4) = true ∧
    after (exec .commit (asking codeCommit [] (restaged (unselected base)))) (fun t =>
      t.tables.active == (restaged base).tables.staged && replied .port1 t == some 0#4) = true ∧
    after (exec .commit (asking codeCommit [] (restaged base))) (fun t =>
      t.tables.commitPending && t.mgmt.executing == some (request codeCommit []) && (t.port .port1).line.isNone) = true := by
  decide +kernel

/-- FL in FAULT at a target of 700, the rest OFF, the gate CLOSED, no source selected. -/
def parked : State :=
  unselected { (driven fun c => if c = .fl then .fault else .off) with gate := Gate.reset }

theorem test_parked_meets_the_boost_laws : DriveInv parked ∧ SelectionInv parked ∧ NoTest parked := by
  refine ⟨⟨⟨by decide +kernel, ?_, by decide +kernel, by decide +kernel, ?_, by decide +kernel⟩, ?_, ?_⟩, rfl, ?_⟩
  · intro c
    cases c <;> exact ⟨fun h => absurd h (by decide +kernel), fun h => by obtain ⟨t, h⟩ := h; cases h⟩
  · intro c
    cases c <;> exact ⟨fun h => absurd h (by decide +kernel), fun h => by obtain ⟨t, h⟩ := h; cases h⟩
  · intro _ c
    cases c <;> decide +kernel
  · intro c
    cases c <;> decide +kernel
  · intro c
    cases c <;> decide +kernel

theorem test_swap_clamps_targets :
    after (exec .commit (asking codeCommit [] (restaged parked))) (fun t =>
      (t.corner .fl).target == 600 && (t.corner .rl).target == 700 && t.engine.queue == [] &&
        t.tables.activeValid && t.gate == parked.gate) = true ∧
    validate (restaged parked).tables.staged (restaged parked).tables.active false = none ∧
    bank.previewEnable ≠ (restaged parked).tables.staged.previewEnable := by
  decide +kernel

/-- STAGED raises V_low and V_cut above the sample and lowers the settle count. -/
def weakened (s : State) : State :=
  { s with
    tables :=
      { s.tables with
        staged :=
          { bank with
            t4 := words [3200, 3200, 3200, 3200, 300, 1800, 1000, 350, 1500, 900, 200, 200, 50, 5, 100, 2, 4, 12000,
              11000, 0] } }
    supply := { sample := 10500, low := false } }

theorem test_swap_judges_the_sample_again :
    after (exec .commit (asking codeCommit [] (weakened parked))) (fun t =>
      t.supply.low && Flag.supplyLow.isSet t.mgmt.flags && Flag.supplyCut.isSet t.mgmt.flags && t.gate == parked.gate)
      = true ∧
    after (exec .commit (asking codeCommit [] ((weakened parked).setMonitor .fl
        { settle := 3, deviation := 1, stuck := 1, test := none }))) (fun t =>
      t.monitorOf .fl == { settle := 2, deviation := 1, stuck := 1, test := none }) = true := by
  decide +kernel

/-- A COMMIT of this STAGED bank waits. -/
def pendingCommit (b : Bank) (s : State) : State :=
  { s with
    tables := { s.tables with staged := b, commitPending := true }
    mgmt := { s.mgmt with executing := some (request codeCommit []) } }

theorem test_served_mark_swaps_with_the_gate_open :
    after (exec (rx (frame 1#3 20 [11])) (pendingCommit (restaged base).tables.staged (based boosting))) (fun t =>
      t.gate.isOpen && (t.corner .fl).target == 600 && (t.corner .fl).state == .boost 5 && (t.corner .rl).target == 700 &&
        t.drive.slots == [.fl, .fr] && (t.engine.computing.map fun y => y.hold) == some true) = true ∧
    after (exec (rx (frame 1#3 20 [11])) (pendingCommit (restaged base).tables.staged (based held))) (fun t =>
      t.corner .fl == { held.corner .fl with target := 600, duty := 160 } && (t.monitorOf .fl).settle == 3 &&
        (t.monitorOf .rl).settle == 0) = true ∧
    after (exec (rx (frame 1#3 20 [11])) (pendingCommit (weakened base).tables.staged
        { based held with supply := { sample := 10500, low := false } })) (fun t =>
      t.gate == { isOpen := false, cause := .supplyCut } && (t.corner .fl).state == .off && (t.corner .fl).target == 700 &&
        (t.monitorOf .fl).settle == 2) = true ∧
    NoTest (based held) := by
  refine ⟨by decide +kernel, by decide +kernel, by decide +kernel, ?_⟩
  intro c
  cases c <;> decide +kernel

/-- The bank with other mark idents. -/
def withIdents (a b : Nat) : Bank := { bank with t1 := words [2000, 3, 6, a, b, 10, 0, 0] }

/-- The gate CLOSED, both sources ALIVE, A selected. -/
def parkedOnA : State := { parked with timing := { base.timing with sources := ⟨.alive 10, .alive 10⟩ } }

theorem test_parked_on_a_meets_the_boost_laws : DriveInv parkedOnA := test_parked_meets_the_boost_laws.1

theorem test_served_mark_swaps_the_idents :
    after (exec (rx (frame 1#3 20 [11])) (pendingCommit (withIdents 22 21) (based parkedOnA))) (fun t =>
      t.timing.sources == ⟨.silent, .alive 10⟩ && t.timing.selected == some .b && t.timing.baseline == none &&
        t.timing.holdRequest && Flag.sourceSwitch.isSet t.mgmt.flags && t.engine.computing.isSome) = true ∧
    after (exec (rx (frame 1#3 20 [11])) (pendingCommit (withIdents 22 0) (based parkedOnA))) (fun t =>
      t.timing.selected == none && t.timing.baseline == some 11#16 && Flag.marksSilent.isSet t.mgmt.flags &&
        t.gate == parked.gate) = true ∧
    after (exec (rx (frame 1#3 20 [11])) (pendingCommit (withIdents 20 0) (based parkedOnA))) (fun t =>
      t.timing.selected == some .a && t.timing.sources.b == .silent && t.timing.baseline == some 11#16) = true := by
  decide +kernel

theorem test_commit_holds_the_idents_while_open :
    after (exec .commit (asking codeCommit [] { held with tables := { held.tables with staged := withIdents 22 21 } }))
      (fun t => replyData t == words [1, 3] && replied .port1 t == some 4#4) = true ∧
    validate (withIdents 20 23) bank true = some (1, 4) ∧ validate (withIdents 20 23) bank false = none ∧
    validate (withIdents 20 20) bank false = some (1, 4) := by
  decide +kernel

/-- The all-zero bank fails first at T1 offset 0 (9.6). -/
theorem test_first_failing_word : ¬ WordPasses Bank.zero bank true 1 0 ∧ EarlierWordsPass Bank.zero bank true 1 0 := by
  refine ⟨fun h => absurd (h.1.2.2.1 rfl rfl).1 (by decide +kernel), ?_⟩
  have zeros : ∀ q, q < 36 → (Bank.zero.t0.getD q 0#16).getLsbD 15 = false := by decide +kernel
  rintro m q hq (hm | ⟨_, hq0⟩)
  · obtain rfl : m = 0 := by omega
    have z := zeros q hq
    have z1 := zeros (q - 1) (Nat.lt_of_le_of_lt (Nat.sub_le q 1) hq)
    refine ⟨⟨fun _ _ h => ?_, fun _ _ h => ?_, ?_⟩, ?_⟩
    · exact Bool.noConfusion (z.symm.trans h)
    · exact Bool.noConfusion (z1.symm.trans h)
    · simp
    · simp [UpperWordPasses]
  · omega

theorem test_set_programme_cases :
    after (exec .setProgramme (asking codeSetProgramme [3] base)) (fun t => replied .port1 t == some 2#4) = true ∧
    after (exec .setProgramme (asking codeSetProgramme [1] base)) (fun t => replied .port1 t == some 0#4) = true ∧
    after (exec .setProgramme (asking codeSetProgramme [2] (unselected base))) (fun t => t.engine.programme == .firm)
      = true ∧
    after (exec .setProgramme (asking codeSetProgramme [0] base)) (fun t =>
      t.engine.pendingProgramme == some .touring && t.engine.programme == .balanced) = true := by
  decide +kernel

theorem test_enable_drive_conditions :
    after (exec .enableDrive (asking codeEnableDrive [] held)) (fun t => replied .port1 t == some 0#4) = true ∧
    after (exec .enableDrive (asking codeEnableDrive [] State.reset)) (fun t => replyData t == words [2]) = true ∧
    after (exec .enableDrive (asking codeEnableDrive [] (unselected base))) (fun t => replyData t == words [3]) = true ∧
    after (exec .enableDrive (asking codeEnableDrive [] { base with supply := { sample := 9999, low := true } }))
      (fun t => replyData t == words [4]) = true ∧
    after (exec .enableDrive (asking codeEnableDrive [] { base with supply := { sample := 10000, low := true } }))
      (fun t => t.gate.isOpen && (t.corner .fl).target == 1000 && (t.corner .rr).target == 900 &&
        (t.corner .fl).state == .hold && (t.monitorOf .fl).settle == 3) = true := by
  decide +kernel

theorem test_disable_drive_closes_the_gate :
    after (exec .disableDrive (asking codeDisableDrive [] boosting)) (fun t =>
      t.gate == { isOpen := false, cause := .command } && (t.corner .rl).state == .off &&
        (t.corner .rr).state == .fault && t.drive.slots == [] && t.drive.waiting == []) = true ∧
    after (exec .disableDrive (asking codeDisableDrive [] base)) (fun t => t.gate == base.gate) = true := by
  decide +kernel

theorem test_monitor_test_starts :
    after (exec .monitorTest (asking codeMonitorTest [3, 1] held)) (fun t =>
      (t.monitorOf .rr).test == some { direction := .low, judged := 0 }) = true ∧
    after (exec .monitorTest (asking codeMonitorTest [4, 1] held)) (fun t => replied .port1 t == some 2#4) = true ∧
    after (exec .monitorTest (asking codeMonitorTest [3, 2] held)) (fun t => replied .port1 t == some 2#4) = true ∧
    after (exec .monitorTest (asking codeMonitorTest [3] held)) (fun t => replied .port1 t == some 2#4) = true ∧
    after (exec .monitorTest (asking codeMonitorTest [3, 0] boosting)) (fun t => replyData t == words [5]) = true ∧
    after (exec .monitorTest (asking codeMonitorTest [0, 0] (monitoring 1 0 0 held))) (fun t => replyData t == words [6])
      = true := by
  decide +kernel

theorem test_clear_faults_by_mask :
    after (exec .clearFaults (asking codeClearFaults [9] boosting)) (fun t =>
      (t.corner .rr).state == .hold && (t.corner .rr).target == 900 && (t.corner .fl).state == .boost 5) = true ∧
    after (exec .clearFaults (asking codeClearFaults [1] parked)) (fun t =>
      (t.corner .fl).state == .off && (t.corner .fl).target == 700) = true ∧
    after (exec .clearFaults (asking codeClearFaults [14] parked)) (fun t => (t.corner .fl).state == .fault) = true ∧
    after (exec .clearFaults (asking codeClearFaults [] parked)) (fun t => replied .port1 t == some 2#4) = true := by
  decide +kernel

theorem test_clear_flags_answers_both_words :
    after (exec .clearFlags (asking codeClearFlags [1] { base with mgmt := { base.mgmt with flags := 3#16 } })) (fun t =>
      replyData t == words [3, 2] && t.mgmt.flags == 2#16) = true ∧
    after (exec .clearFlags (asking codeClearFlags [] base)) (fun t => replied .port1 t == some 2#4) = true := by
  decide +kernel

/-- The data words READ_STATE answers. -/
def readsAs (ops : List Nat) (s : State) (ws : List Nat) : Bool :=
  after (exec .readState (asking codeReadState ops s)) fun t => replyData t == words ws && replied .port1 t == some 0#4

/-- READ_STATE is INVALID. -/
def readsInvalid (ops : List Nat) (s : State) : Bool :=
  after (exec .readState (asking codeReadState ops s)) fun t => replied .port1 t == some 2#4 && replyData t == []

theorem test_read_state_pages :
    readsAs [3, 0, 0] (based base) [1, 0x185, 10, 0, 0, 0, 0] = true ∧ readsAs [3, 0, 1] base [0, 0, 1, 0, 0, 0, 0] = true ∧
      readsInvalid [3, 0, 2] base = true ∧ readsInvalid [5, 0, 0] base = true ∧ readsInvalid [3, 0] base = true ∧
      readsAs [0, 0, 3 * 2] base [0, 0, 0, 0, 0, 0] = true ∧
      readsAs [0, 0, 3 * 2 + 1] boosting [0, 0, 0, 2, 700, 187, 0] = true ∧
      readsAs [0, 0, 3 * 3 + 2] boosting [0, 0, 0, 0, 0, 0] = true ∧
      readsAs [0, 0, 12] boosting [0x2008, 0, 12000, 0, 0x8003] = true ∧ readsInvalid [0, 0, 13] base = true := by
  decide +kernel

theorem test_read_state_signals_and_preview :
    readsAs [1, 8, 0] base [8, 1, 0, 255, 0, 0, 0] = true ∧ readsAs [1, 6, 0] base [6, 0, 0, 255, 0, 0, 0] = true ∧
      readsInvalid [1, 9, 0] base = true ∧ readsAs [2, 0, 0] base [0, 0, 0, 0, 0, 0] = true ∧
      readsAs [2, 0, 1] base [0, 0, 256, 0, 256] = true ∧ boosting.drive.waiting.length ≤ 2 := by
  decide +kernel

/-- Four preview entries, the third a DIP of the RIGHT side. -/
def previewing : State :=
  { base with
    engine :=
      { base.engine with
        queue := [entry 50, entry 60, { side := .right, kind := .dip, stamp := 0x10002, peak := 70, isOpen := false },
          entry 80] } }

theorem test_read_state_preview_entries :
    readsAs [2, 1, 2] previewing [1 * 8192 + 6 * 1024 + 1 * 128 + 4, 0, 0, 1, 2, 0, 0] = true ∧
      readsAs [2, 3, 2] previewing [1 * 8192 + 4, 0, 0] = true ∧ readsAs [2, 15, 2] previewing [4] = true ∧
      readsAs [2, 2, 3] previewing [4, 70, 2, 80, 0] = true ∧ readsInvalid [2, 16, 2] previewing = true ∧
      readsInvalid [2, 16, 3] previewing = true ∧ readsInvalid [2, 0, 4] previewing = true ∧
      readsInvalid [1, 0, 1] base = true := by
  decide +kernel

theorem test_counter_pages :
    after (exec .readState (asking codeReadState [4, 2, 0x8000] (fifoOf 3 base))) (fun t =>
      replyData t == words [3 * 4096, 0, 0, 0, 0, 0, 0]) = true ∧
    readsAs [4, 1, 1] base [0, 0, 0, 0, 0, 0] = true ∧ readsAs [4, 1, 2] base [0, 0, 0, 0, 0, 0] = true ∧
      readsInvalid [4, 1, 0x8001] base = true ∧ readsInvalid [4, 1, 0x8002] base = true ∧
      readsInvalid [4, 0, 0] base = true ∧ readsInvalid [4, 3, 0] base = true ∧ readsInvalid [4, 1, 3] base = true := by
  decide +kernel

theorem test_reset_control_needs_a_closed_gate :
    after (exec .resetControl (asking codeResetControl [] held)) (fun t => replyData t == words [7] && t.gate.isOpen)
      = true ∧
    after (exec .resetControl (asking codeResetControl [] parked)) (fun t =>
      (t.corner .fl) == DriveRecord.reset 200 && t.timing.holdRequest && t.gate == Gate.reset &&
        t.tables == parked.tables) = true := by
  decide +kernel

/-! ### States that meet the invariants, a step that runs in each -/

theorem test_held_meets_the_gate_law : GateInv held := by
  refine ⟨⟨by decide +kernel, by decide +kernel, fun _ => ?_, fun h => ?_, fun y h => ?_⟩, fun _ => ?_⟩
  · exact test_bank_is_validated.1
  · cases h
  · cases h
  · decide +kernel

theorem test_boosting_meets_the_target_law : TargetInv boosting := by
  refine ⟨⟨⟨by decide +kernel, by decide +kernel, fun _ => test_bank_is_validated.1, fun h => ?_, fun y h => ?_⟩,
    fun _ => by decide +kernel⟩, test_boosting_meets_the_boost_laws, ?_⟩
  · cases h
  · cases h
  · intro c
    cases c <;> decide +kernel

theorem test_queues_meet_their_bounds : QueueInv (insertOf 4) ∧ CountersInv (insertOf 4) ∧ SelectionInv (insertOf 4) := by
  refine ⟨⟨?_, by decide +kernel⟩, ?_, rfl⟩
  · intro p
    cases p <;> decide +kernel
  · intro p
    cases p <;> exact ⟨by unfold Counters.addUp; decide +kernel, by unfold Counters.addUp; decide +kernel⟩

theorem test_periods_meet_their_law :
    PeriodInv held ∧ PeriodInv (measuredAt [.fl, .fr, .rr] held) ∧
    after (step { measuredAt [.fl, .fr, .rr] held with pending := [.currentMeasurement .rl 700] }) (fun t =>
      corners.all fun c => !(t.corner c).periodEnded) = true := by
  refine ⟨⟨fun c d => ?_, .fl, rfl⟩, ⟨fun c d => ?_, .rl, rfl⟩, by decide +kernel⟩ <;>
    cases c <;> cases d <;> rfl

theorem test_sources_without_an_ident_are_silent :
    SourcesInv base ∧ SourcesInv State.reset ∧
    after (step { base with pending := [.silenceTimerExpiry .a true] }) (fun t =>
      t.timing.sources == ⟨.silent, .silent⟩) = true ∧
    after (step { State.reset with pending := [rx (frame 1#3 0 [1])] }) (fun t =>
      t.timing.sources == ⟨.silent, .silent⟩) = true := by
  refine ⟨⟨fun h => ?_, fun h => ?_⟩, ⟨fun _ => rfl, fun _ => rfl⟩, by decide +kernel, by decide +kernel⟩
  · cases h
  · exact absurd h (by decide +kernel)

theorem test_held_meets_the_engine_ranges : EngineInv held := by
  refine ⟨test_held_meets_the_gate_law.1, ?_, ?_, ?_, by decide +kernel, ?_, ?_⟩
  · intro g
    cases g <;> exact ⟨⟨by decide +kernel, by decide +kernel⟩, by decide +kernel, by decide +kernel⟩
  · intro y h
    cases h
  · intro c
    cases c <;> exact ⟨⟨by decide +kernel, by decide +kernel⟩, by decide +kernel⟩
  · intro p h
    cases h
  · intro d
    cases d <;> decide +kernel

theorem test_steps_run_where_the_invariants_hold :
    after (step { held with pending := [.supplyMeasurement 11000] }) (fun t => t.supply.sample == 11000) = true ∧
    after (step { boosting with pending := [.boostTimerExpiry .fl] }) (fun t => (t.corner .fl).state == .hold) = true ∧
    after (step { insertOf 4 with pending := [.transmitCompletion .port1] }) (fun t =>
      (t.port .port1).insert.length == 3) = true ∧
    after (step { asking codeNop [] base with pending := [.nop] }) (fun t => t.mgmt.queue == []) = true := by
  decide +kernel

end Sys2Proof.Tests
end

/-! The motion of a completed cycle (chapter 3): what a completion writes to the estimation records and to the odometer. -/

namespace Sys2Proof.Machine

/-! ### The engine after a completion (R15) -/

@[simp] theorem writeResults_engine (y : Cycle) (s : State) : (writeResults y s).engine = finishCycle y s.engine := by
  simp [writeResults]

@[simp] theorem stageDelivery_engine (y : Cycle) (s : State) : (stageDelivery y s).engine = s.engine := by
  unfold stageDelivery
  split <;> simp

theorem exec_computationCompletion {s : State} {y : Cycle} (h : AtCompletion s y) :
    exec .computationCompletion s = .next (stageDelivery y (writeResults y s)) := by
  obtain ⟨hreset, hcomputing⟩ := h
  simp [exec, execComputationCompletion, hreset, hcomputing]

/-- Delivery and report leave the finished engine alone. -/
theorem completion_engine {s : State} {y : Cycle} (h : AtCompletion s y) :
    ∃ t, exec .computationCompletion s = .next t ∧ t.engine = finishCycle y s.engine :=
  ⟨_, exec_computationCompletion h, by simp⟩

/-! ### The stages after 3 and 4 keep the estimates and the odometer -/

@[simp] theorem flushPreview_motion (e : Engine) :
    e.flushPreview.est = e.est ∧ e.flushPreview.odometer = e.odometer := ⟨rfl, rfl⟩

@[simp] theorem armSide_motion (d : Side) (e : Engine) :
    (armSide d e).est = e.est ∧ (armSide d e).odometer = e.odometer := ⟨rfl, rfl⟩

@[simp] theorem openEvent_motion (d : Side) (vd : Int) (e : Engine) :
    (openEvent d vd e).est = e.est ∧ (openEvent d vd e).odometer = e.odometer := by
  unfold openEvent
  dsimp only
  split <;> exact ⟨rfl, rfl⟩

@[simp] theorem detectSide_motion (y : Cycle) (d : Side) (e : Engine) :
    (detectSide y d e).est = e.est ∧ (detectSide y d e).odometer = e.odometer := by
  unfold detectSide
  dsimp only
  split
  · simp
  · split <;> split <;> simp

@[simp] theorem stageTake_motion (y : Cycle) (e : Engine) :
    (stageTake y e).est = e.est ∧ (stageTake y e).odometer = e.odometer := ⟨rfl, rfl⟩

@[simp] theorem stagePreview_motion (y : Cycle) (e : Engine) :
    (stagePreview y e).est = e.est ∧ (stagePreview y e).odometer = e.odometer := by
  unfold stagePreview
  dsimp only
  split <;> simp

@[simp] theorem stageSchedule_motion (y : Cycle) (e : Engine) :
    (stageSchedule y e).est = e.est ∧ (stageSchedule y e).odometer = e.odometer := ⟨rfl, rfl⟩

@[simp] theorem stageForce_motion (y : Cycle) (e : Engine) :
    (stageForce y e).est = e.est ∧ (stageForce y e).odometer = e.odometer := ⟨rfl, rfl⟩

@[simp] theorem stageValve_motion (y : Cycle) (e : Engine) :
    (stageValve y e).est = e.est ∧ (stageValve y e).odometer = e.odometer := ⟨rfl, rfl⟩

/-- Stages 5 to 9 keep what stages 3 and 4 make of the estimates and the odometer. -/
theorem computeCycle_motion (y : Cycle) (e : Engine) :
    (computeCycle y e).est = (stageMotion y e).est ∧ (computeCycle y e).odometer = advance y e.odometer := by
  simp [computeCycle, stageOdometer, stageMotion]

/-- An owed flush (R18) leaves them alone too. -/
theorem finishCycle_motion (y : Cycle) (e : Engine) :
    (finishCycle y e).est = (computeCycle y e).est ∧ (finishCycle y e).odometer = (computeCycle y e).odometer := by
  unfold finishCycle
  dsimp only
  split <;> simp

@[simp] theorem finishCycle_est (y : Cycle) (e : Engine) (c : Corner) :
    (finishCycle y e).est.get c = estimate y c (e.est.get c) := by
  simp [(finishCycle_motion y e).1, (computeCycle_motion y e).1, stageMotion]

@[simp] theorem finishCycle_odometer (y : Cycle) (e : Engine) : (finishCycle y e).odometer = advance y e.odometer :=
  (finishCycle_motion y e).2.trans (computeCycle_motion y e).2

/-! ### Damper velocity (R41 to R43) -/

section
variable {y : Cycle} {c : Corner} {e : Estimation}

theorem estimate_of_travelLost (h : (y.snapshot.get (travelOf c)).stale = true) :
    (estimate y c e).lastVd = 0 ∧ (estimate y c e).seeded = false ∧ (estimate y c e).xPrev = e.xPrev := by
  simp [estimate, h]

/-- Whatever the velocity, a fresh travel seeds the record. -/
theorem estimate_seeds (h : (y.snapshot.get (travelOf c)).stale = false) :
    (estimate y c e).seeded = true ∧ (estimate y c e).xPrev = (y.snapshot.get (travelOf c)).value := by
  simp [estimate, h]

theorem estimate_lastVd_of_unseeded (h : e.seeded = false) : (estimate y c e).lastVd = 0 := by
  simp [estimate, h]

theorem estimate_lastVd_of_seeded (h : (y.snapshot.get (travelOf c)).stale = false) (hs : e.seeded = true) :
    (estimate y c e).lastVd = damperVelocity y.bank.tUs y.k (y.snapshot.get (travelOf c)).value e.xPrev := by
  simp [estimate, h, hs]

end

/-- Settles O16: the completion writes stage 3's record, and R41, R42 and R43 are its three cases. -/
theorem damperVelocityFollowsTravel : Obligations.DamperVelocityFollowsTravel := by
  intro s y h
  obtain ⟨t, hexec, hengine⟩ := completion_engine h
  refine ⟨t, hexec, fun c => ?_⟩
  rw [hengine, finishCycle_est]
  refine ⟨rfl, estimate_of_travelLost, fun hfresh hclear => ?_, fun hfresh hseeded => ?_⟩
  · exact ⟨estimate_lastVd_of_unseeded hclear, estimate_seeds hfresh⟩
  · exact ⟨estimate_lastVd_of_seeded hfresh hseeded, estimate_seeds hfresh⟩

/-! ### Body velocity (R45 to R47) -/

/-- The k steps of R46 are `integrateStep` iterated, so that the last step may be taken off as well as the first. -/
theorem integrate_eq_iterate (leakShift : Nat) (inc : Int) (k : Nat) (vb : Int) :
    integrate leakShift inc k vb = (integrateStep leakShift inc)^[k] vb := by
  induction k generalizing vb with
  | zero => rfl
  | succ k ih => exact ih _

theorem integrate_succ (leakShift : Nat) (inc : Int) (k : Nat) (vb : Int) :
    integrate leakShift inc (k + 1) vb = integrateStep leakShift inc (integrate leakShift inc k vb) := by
  simp only [integrate_eq_iterate, Function.iterate_succ_apply']

/-! ### The odometer (R48) -/

theorem advance_of_forward {y : Cycle} {v : Nat} (odometer : Count) (hfresh : y.snapshot.speed.stale = false)
    (hpos : 0 < v) (hv : y.snapshot.speed.value = v) :
    advance y odometer = odometer + BitVec.ofNat 32 (v * y.bank.tUs * y.k / 100) := by
  have hnonzero : v ≠ 0 := by omega
  simp [advance, hfresh, hv, hnonzero]

theorem advance_of_stands {y : Cycle} (odometer : Count)
    (h : y.snapshot.speed.stale = true ∨ y.snapshot.speed.value ≤ 0) : advance y odometer = odometer := by
  simp [advance, h]

/-- Settles O17: the sequence is `integrate` by its number of steps, and the odometer goes by the two cases of R48. -/
theorem bodyVelocityAndOdometer : Obligations.BodyVelocityAndOdometer := by
  constructor
  · intro s y h
    obtain ⟨t, hexec, hengine⟩ := completion_engine h
    refine ⟨t, hexec, fun c => ?_⟩
    rw [hengine, finishCycle_est]
    exact ⟨rfl, fun i => integrate y.bank.leakShift _ i (s.engine.est.get c).vbQ, rfl,
      fun i => integrate_succ _ _ i _, rfl⟩
  · intro s y h
    obtain ⟨t, hexec, hengine⟩ := completion_engine h
    refine ⟨t, hexec, ?_⟩
    rw [hengine, finishCycle_odometer]
    exact ⟨fun hfresh _ hpos hv => advance_of_forward _ hfresh hpos hv, advance_of_stands _⟩

end Sys2Proof.Machine

/-! The demand forces and the targets of a completed cycle (chapters 4 and 6): stage 8 read from the finished engine, with
the windows as stage 5 leaves them, and stage 9's two paths and its clamp. -/

namespace Sys2Proof.Machine

/-! ### What stage 8 starts from -/

/-- The engine after stage 7: what the demand force is computed from. -/
def forceInput (y : Cycle) (e : Engine) : Engine :=
  stageSchedule y (stagePreview y (stageOdometer y (stageMotion y e)))

theorem computeCycle_eq (y : Cycle) (e : Engine) :
    computeCycle y e = stageValve y (stageForce y (forceInput y e)) := rfl

/-- An owed flush (R18) touches the queue and the sides alone. -/
theorem finishCycle_keeps (y : Cycle) (e : Engine) :
    (finishCycle y e).results = (computeCycle y e).results ∧
      (finishCycle y e).previewActive = (computeCycle y e).previewActive ∧
      (finishCycle y e).cSky = (computeCycle y e).cSky ∧ (finishCycle y e).cBase = (computeCycle y e).cBase ∧
      (finishCycle y e).fMax = (computeCycle y e).fMax := by
  unfold finishCycle
  dsimp only
  split <;> exact ⟨rfl, rfl, rfl, rfl, rfl⟩

/-- Stages 8 and 9 keep the schedule values. -/
theorem forceInput_schedule (y : Cycle) (e : Engine) :
    (forceInput y e).cSky = (finishCycle y e).cSky ∧ (forceInput y e).cBase = (finishCycle y e).cBase ∧
      (forceInput y e).fMax = (finishCycle y e).fMax := by
  obtain ⟨-, -, hsky, hbase, hmax⟩ := finishCycle_keeps y e
  exact ⟨hsky.symm, hbase.symm, hmax.symm⟩

theorem forceInput_est (y : Cycle) (e : Engine) : (forceInput y e).est = (finishCycle y e).est := by
  rw [(finishCycle_motion y e).1, computeCycle_eq]
  simp

/-- The items a completion keeps of a corner are stage 9's. -/
theorem finishCycle_results (y : Cycle) (e : Engine) (c : Corner) :
    (finishCycle y e).results.get c = valveOf y (stageForce y (forceInput y e)) c := by
  rw [(finishCycle_keeps y e).1, computeCycle_eq]
  exact PerCorner.get_ofFn _ c

/-! ### The windows after stage 5 (R69, R79) -/

/-- Stage 6 writes neither the windows nor the preview condition. -/
@[simp] theorem armSide_preview (d : Side) (e : Engine) :
    (armSide d e).windows = e.windows ∧ (armSide d e).previewActive = e.previewActive := ⟨rfl, rfl⟩

@[simp] theorem openEvent_preview (d : Side) (vd : Int) (e : Engine) :
    (openEvent d vd e).windows = e.windows ∧ (openEvent d vd e).previewActive = e.previewActive := by
  unfold openEvent
  dsimp only
  split <;> exact ⟨rfl, rfl⟩

@[simp] theorem detectSide_preview (y : Cycle) (d : Side) (e : Engine) :
    (detectSide y d e).windows = e.windows ∧ (detectSide y d e).previewActive = e.previewActive := by
  unfold detectSide
  dsimp only
  split
  · simp
  · split <;> split <;> simp

theorem stagePreview_previewActive (y : Cycle) (e : Engine) :
    (stagePreview y e).previewActive = previewIsActive y := by
  unfold stagePreview
  dsimp only
  split
  · simp [stageTake]
  · rfl

theorem stagePreview_windows (y : Cycle) (e : Engine) :
    (stagePreview y e).windows =
      if previewIsActive y then (takeDue y.bank e.odometer e.queue e.windows).2 else e.windows := by
  unfold stagePreview
  dsimp only
  split
  · simp [stageTake]
  · rfl

theorem finishCycle_previewActive (y : Cycle) (e : Engine) : (finishCycle y e).previewActive = previewIsActive y :=
  (finishCycle_keeps y e).2.1.trans (stagePreview_previewActive y _)

/-- Stage 8 reads the windows as stage 5 leaves them, not yet counted down. -/
theorem forceInput_windows (y : Cycle) (e : Engine) :
    (forceInput y e).windows =
      if (finishCycle y e).previewActive then
        (takeDue y.bank (finishCycle y e).odometer e.queue e.windows).2
      else e.windows := by
  rw [finishCycle_previewActive, finishCycle_odometer]
  exact stagePreview_windows y (stageOdometer y (stageMotion y e))

/-! ### Demand force (R65 to R69) -/

/-- R67's condition: two numbers that are not 0 have one sign exactly when both or neither are above 0. -/
theorem sameSign_iff (a b : Int) :
    (0 < a ∧ 0 < b) ∨ (a < 0 ∧ b < 0) ↔ a ≠ 0 ∧ b ≠ 0 ∧ (0 < a ↔ 0 < b) := by
  omega

theorem skyForce_eq (cSky : Nat) (vb vd : Int) (lost : Bool) :
    skyForce cSky vb vd lost =
      if wantedForce cSky vb ≠ 0 ∧ vd ≠ 0 ∧ (0 < wantedForce cSky vb ↔ 0 < vd) ∧ lost = false then
        (wantedForce cSky vb).natAbs
      else 0 := by
  cases lost with
  | true => simp [skyForce]
  | false => simp only [skyForce, sameSign_iff, and_true, Bool.false_eq_true, if_false]

/-- Stage 9 keeps the two force items that stage 8 writes. -/
theorem valveOf_stageForce (y : Cycle) (e : Engine) (c : Corner) :
    (valveOf y (stageForce y e) c).fSky = (forceOf e c).1 ∧ (valveOf y (stageForce y e) c).fDem = (forceOf e c).2 := by
  simp [valveOf, stageForce]

/-- The skyhook term of R65 and R67, in the finished engine's own values. -/
theorem finishCycle_fSky (y : Cycle) (e : Engine) (c : Corner) :
    ((finishCycle y e).results.get c).fSky =
      skyForce (finishCycle y e).cSky ((finishCycle y e).est.get c).vbQ ((finishCycle y e).est.get c).lastVd
        ((finishCycle y e).est.get c).lastSkyLost := by
  obtain ⟨hsky, -, -⟩ := forceInput_schedule y e
  rw [finishCycle_results, (valveOf_stageForce y _ c).1, ← forceInput_est, ← hsky]
  rfl

/-- Base force and skyhook term, limited, and scaled by the window (R66, R68, R69). -/
theorem finishCycle_fDem (y : Cycle) (e : Engine) (c : Corner) :
    ((finishCycle y e).results.get c).fDem =
      scaleForce (forceInput y e).windows c
        (min (baseForce (finishCycle y e).cBase ((finishCycle y e).est.get c).lastVd +
          ((finishCycle y e).results.get c).fSky) (finishCycle y e).fMax) := by
  obtain ⟨hsky, hbase, hmax⟩ := forceInput_schedule y e
  rw [finishCycle_fSky, finishCycle_results, (valveOf_stageForce y _ c).2, ← forceInput_est, ← hsky, ← hbase, ← hmax]
  rfl

/-! ### Targets (R96, R101, R102) -/

theorem valveOf_of_travelLost {y : Cycle} {e : Engine} {c : Corner} (h : (e.est.get c).lastTravelLost = true) :
    (valveOf y e c).source = .fallback ∧ (valveOf y e c).mapCurrent = y.bank.iFallback (axleOf c) := by
  simp [valveOf, h]

theorem valveOf_of_travelFresh {y : Cycle} {e : Engine} {c : Corner} (h : (e.est.get c).lastTravelLost = false) :
    (valveOf y e c).source = .map ∧
      (valveOf y e c).mapCurrent =
        mapCurrentAt y.bank (axleOf c) (e.est.get c).lastVd.natAbs (valveOf y e c).fDem := by
  simp [valveOf, h]

theorem valveOf_target (y : Cycle) (e : Engine) (c : Corner) :
    (valveOf y e c).target = clampNat (y.bank.iMin (axleOf c)) (y.bank.iMax (axleOf c)) (valveOf y e c).mapCurrent := rfl

theorem clampNat_of_lt {lo hi x : Nat} (h : x < lo) : clampNat lo hi x = lo := if_pos h

theorem clampNat_of_gt {lo hi x : Nat} (hlo : lo ≤ x) (hhi : hi < x) : clampNat lo hi x = hi := by
  simp [clampNat, Nat.not_lt.mpr hlo, hhi]

theorem clampNat_of_mem {lo hi x : Nat} (hlo : lo ≤ x) (hhi : x ≤ hi) : clampNat lo hi x = x := by
  simp [clampNat, Nat.not_lt.mpr hlo, Nat.not_lt.mpr hhi]

/-- Settles O22: the forces are stage 8's with stage 5's windows, and each target is one of stage 9's two paths, clamped. -/
theorem forcesAndTargetsFollowTheStages : Obligations.ForcesAndTargetsFollowTheStages := by
  constructor
  · intro s y h
    obtain ⟨t, hexec, hengine⟩ := completion_engine h
    refine ⟨t, hexec, fun c => ?_⟩
    rw [hengine]
    have hsky := (finishCycle_fSky y s.engine c).trans (skyForce_eq ..)
    have hdem := finishCycle_fDem y s.engine c
    rw [hsky, forceInput_windows] at hdem
    refine ⟨hsky, hdem.trans ?_⟩
    cases c <;> rfl
  · intro s y h
    obtain ⟨t, hexec, hengine⟩ := completion_engine h
    refine ⟨t, hexec, fun c => ?_⟩
    rw [hengine, finishCycle_results, ← forceInput_est, ← (stageForce_motion y _).1]
    dsimp only
    rw [valveOf_target]
    exact ⟨valveOf_of_travelLost, valveOf_of_travelFresh, clampNat_of_lt, clampNat_of_gt, clampNat_of_mem⟩

end Sys2Proof.Machine

/-! A supply sample (chapters 7 and 8): the duties it forms anew, the two judgements, and what the closing of an OPEN gate
makes of the drives. -/

namespace Sys2Proof.Machine

/-! ### Duties formed anew (R110) -/

/-- A drive record with its duty formed anew in HOLD or WAIT (R110). -/
def reformed (s : State) (c : Corner) : DriveRecord :=
  if (s.corner c).state.isHeld then { s.corner c with duty := feedForward s c (s.corner c).target } else s.corner c

/-- The state with the four drive records replaced. -/
def State.setRecords (s : State) (p : PerCorner DriveRecord) : State := { s with drive := { s.drive with corners := p } }

/-- A held corner has the feed-forward duty, and its output stays on (R107, R109). -/
theorem held_duty {d : DriveState} (h : d.isHeld = true) (s : State) (c : Corner) (i : Nat) :
    dutyOf s c d i = feedForward s c i ∧ d.isOff = false := by
  cases d with
  | hold => exact ⟨rfl, rfl⟩
  | wait base => exact ⟨rfl, rfl⟩
  | off => cases h
  | boost timeout => cases h
  | fault => cases h

theorem reformDuty_eq (c : Corner) (s : State) : reformDuty c s = s.setCorner c (reformed s c) := by
  unfold reformDuty reformed
  split
  · rename_i h
    obtain ⟨hduty, hon⟩ := held_duty h s c (s.corner c).target
    simp [enter, hduty, hon]
  · cases c <;> rfl

theorem corner_reformDuties (s : State) (c : Corner) : (reformDuties s).corner c = reformed s c := by
  obtain ⟨s', ⟨htables, hsupply⟩, hcorner, hfold⟩ := foldl_corner_at State.corner (fun s' c => reformDuty c s')
    (fun s c d hd => by simp only [reformDuty_eq, corner_setCorner_ne _ _ hd])
    (fun s' => s'.tables = s.tables ∧ s'.supply = s.supply)
    (fun s' c hs => by simpa using hs)
    corners corners_nodup s ⟨rfl, rfl⟩ c (mem_corners c)
  refine hfold.trans ?_
  simp only [reformDuty_eq, corner_setCorner_same, reformed, hcorner,
    feedForward_of (congrArg Tables.active htables) (congrArg Supply.sample hsupply)]

/-- Forming the duties anew writes the four drive records and nothing else. -/
theorem reformDuties_eq (s : State) : reformDuties s = s.setRecords (PerCorner.ofFn (reformed s)) := by
  have hrest (p : PerCorner DriveRecord) : (reformDuties s).setRecords p = s.setRecords p :=
    foldl_keeps (fun t : State => t.setRecords p) _ (fun t c => by rw [reformDuty_eq]; rfl) _ _
  have hrecords : (reformDuties s).drive.corners = PerCorner.ofFn (reformed s) :=
    PerCorner.ext_get fun c => by rw [PerCorner.get_ofFn]; exact corner_reformDuties s c
  calc reformDuties s = (reformDuties s).setRecords (reformDuties s).drive.corners := rfl
    _ = s.setRecords (PerCorner.ofFn (reformed s)) := by rw [hrest, hrecords]

@[simp] theorem reformDuties_frame (s : State) :
    (reformDuties s).link = s.link ∧ (reformDuties s).capture = s.capture ∧ (reformDuties s).timing = s.timing ∧
      (reformDuties s).engine = s.engine ∧ (reformDuties s).tables = s.tables ∧
      (reformDuties s).monitor = s.monitor ∧ (reformDuties s).supply = s.supply ∧
      (reformDuties s).gate = s.gate ∧ (reformDuties s).mgmt = s.mgmt := by
  simp [reformDuties_eq, State.setRecords]

/-! ### The closing of the gate (R126, R143) -/

theorem closeGate_gate (x : CloseCause) (s : State) :
    (closeGate x s).gate = if s.gate.isOpen then { isOpen := false, cause := x } else s.gate := by
  cases h : s.gate.isOpen with
  | true => exact (closeGate_lists x h).2.2.2
  | false => rw [closeGate_closed x h]; rfl

@[simp] theorem closeGate_isOpen (x : CloseCause) (s : State) : (closeGate x s).gate.isOpen = false := by
  rw [closeGate_gate]
  cases h : s.gate.isOpen with
  | true => rfl
  | false => exact h

theorem toOff_isSet (c : Corner) (s : State) {g : Flag} (h : g ≠ .insertLost) :
    g.isSet (toOff c s).mgmt.flags = g.isSet s.mgmt.flags := by
  simp [toOff, abortTest_isSet _ _ h]

theorem allDrivenOff_isSet (s : State) {g : Flag} (h : g ≠ .insertLost) :
    g.isSet (allDrivenOff s).mgmt.flags = g.isSet s.mgmt.flags := by
  unfold allDrivenOff
  refine foldl_keeps (fun t : State => g.isSet t.mgmt.flags) _ (fun t c => ?_) _ _
  split
  · exact toOff_isSet c t h
  · rfl

/-- A closing gate sets no flag itself: only the reply of an aborted monitor test can be lost (R138, R170). -/
theorem closeGate_isSet (x : CloseCause) (s : State) {g : Flag} (h : g ≠ .insertLost) :
    g.isSet (closeGate x s).mgmt.flags = g.isSet s.mgmt.flags := by
  unfold closeGate
  split
  · simpa using allDrivenOff_isSet _ h
  · rfl

/-- With no monitor test running, a corner that goes to OFF answers no request. -/
theorem toOff_of_noTest {s : State} (h : NoTest s) (c : Corner) :
    NoTest (toOff c s) ∧ (toOff c s).link = s.link ∧ (toOff c s).mgmt = s.mgmt := by
  have habort : abortTest c (enter c .off (s.corner c).target s) = enter c .off (s.corner c).target s :=
    abortTest_none (h c)
  refine ⟨fun d => ?_, ?_, ?_⟩
  · rw [monitorOf_toOff]
    split
    · rfl
    · exact h d
  · simp [toOff, habort]
  · simp [toOff, habort]

theorem allDrivenOff_of_noTest {s : State} (h : NoTest s) :
    (allDrivenOff s).link = s.link ∧ (allDrivenOff s).mgmt = s.mgmt := by
  have hkept : NoTest (allDrivenOff s) ∧ (allDrivenOff s).link = s.link ∧ (allDrivenOff s).mgmt = s.mgmt := by
    refine List.foldlRecOn (motive := fun t : State => NoTest t ∧ t.link = s.link ∧ t.mgmt = s.mgmt) corners _
      ⟨h, rfl, rfl⟩ fun t ht c _ => ?_
    obtain ⟨hnone, hlink, hmgmt⟩ := ht
    split
    · obtain ⟨hnone', hlink', hmgmt'⟩ := toOff_of_noTest hnone c
      exact ⟨hnone', hlink'.trans hlink, hmgmt'.trans hmgmt⟩
    · exact ⟨hnone, hlink, hmgmt⟩
  exact hkept.2

theorem closeGate_of_noTest (x : CloseCause) {s : State} (h : NoTest s) :
    (closeGate x s).link = s.link ∧ (closeGate x s).mgmt = s.mgmt := by
  unfold closeGate
  split
  · simpa using allDrivenOff_of_noTest (s := { s with gate := { isOpen := false, cause := x } }) h
  · exact ⟨rfl, rfl⟩

theorem closeGate_drivesSwitchedOff {s : State} (x : CloseCause) (h : s.gate.isOpen = true) :
    DrivesSwitchedOff s (closeGate x s) := by
  obtain ⟨hslots, hwaiting, hstaggered, -⟩ := closeGate_lists x h
  refine ⟨fun c hdriven => ?_, fun c hnot => ?_, hslots, hwaiting, fun c => by rw [hstaggered, PerCorner.get_all]⟩
  · simpa [State.both, settling, hdriven] using both_closeGate x h c
  · simpa [State.both, hnot] using both_closeGate x h c

/-- What the closing makes of the drives depends on the Drive Unit, the Current Monitor and the tables before it. -/
theorem DrivesSwitchedOff.of_agree {s u t : State} (h : DrivesSwitchedOff u t) (hdrive : u.drive = s.drive)
    (hmonitor : u.monitor = s.monitor) (htables : u.tables = s.tables) : DrivesSwitchedOff s t := by
  simpa only [DrivesSwitchedOff, settling, corner_of_drive hdrive, monitorOf_of_monitor hmonitor, htables] using h

theorem NoTest.of_monitor {s t : State} (h : NoTest s) (hmonitor : t.monitor = s.monitor) : NoTest t :=
  fun c => (congrArg MonitorRecord.test (monitorOf_of_monitor hmonitor c)).trans (h c)

/-! ### The judgements of a sample (R139 to R141) -/

/-- LOW follows V_low, and stays as it was within the 300 mV of hysteresis (R140). -/
theorem judgeLow_low (s : State) :
    (s.supply.sample < s.tables.active.vLow → (judgeLow s).supply.low = true) ∧
      (s.tables.active.vLow ≤ s.supply.sample → s.supply.sample < s.tables.active.vLow + 300 →
        (judgeLow s).supply.low = s.supply.low) ∧
      (s.tables.active.vLow + 300 ≤ s.supply.sample → (judgeLow s).supply.low = false) := by
  unfold judgeLow Config.lowHysteresis
  refine ⟨fun hbelow => ?_, fun hge hlt => ?_, fun habove => ?_⟩
  · rw [if_pos hbelow]
    rfl
  · rw [if_neg (Nat.not_lt.mpr hge), if_neg (Nat.not_le.mpr hlt)]
  · rw [if_neg (by omega), if_pos habove]

theorem judgeLow_isSet (g : Flag) (s : State) :
    g.isSet (judgeLow s).mgmt.flags =
      (g.isSet s.mgmt.flags || (decide (g = .supplyLow) && decide (s.supply.sample < s.tables.active.vLow))) := by
  unfold judgeLow
  split
  · rename_i hlow
    simp [setFlag_isSet, hlow, -setFlag_mgmt]
  · rename_i hlow
    split <;> simp [hlow]

/-- A sample below V_cut asks the gate to close, and no duty is formed anew with the gate then CLOSED. -/
theorem actOnSample_cut {s : State} (hvalid : s.tables.activeValid = true)
    (hcut : s.supply.sample < s.tables.active.vCut) :
    actOnSample s = closeGate .supplyCut (setFlag .supplyCut (judgeLow s)) := by
  simp [actOnSample, hvalid, judgeSupply, judgeCut, hcut]

/-- Any other sample leaves the gate alone, and an OPEN gate has the duties formed anew. -/
theorem actOnSample_noCut {s : State} (hvalid : s.tables.activeValid = true)
    (hcut : s.tables.active.vCut ≤ s.supply.sample) :
    actOnSample s = if s.gate.isOpen then reformDuties (judgeLow s) else judgeLow s := by
  simp [actOnSample, hvalid, judgeSupply, judgeCut, Nat.not_lt.mpr hcut]

/-! ### A sample while ACTIVE is valid -/

section
variable {s : State}

theorem actOnSample_frame (hvalid : s.tables.activeValid = true) :
    (actOnSample s).supply.sample = s.supply.sample ∧ (actOnSample s).supply.low = (judgeLow s).supply.low ∧
      (actOnSample s).tables = s.tables ∧ (actOnSample s).timing = s.timing ∧ (actOnSample s).engine = s.engine ∧
      (actOnSample s).capture = s.capture := by
  rcases Nat.lt_or_ge s.supply.sample s.tables.active.vCut with hcut | hcut
  · simp [actOnSample_cut hvalid hcut]
  · rw [actOnSample_noCut hvalid hcut]
    split <;> simp

theorem actOnSample_gate (hvalid : s.tables.activeValid = true) :
    (actOnSample s).gate =
      if s.supply.sample < s.tables.active.vCut ∧ s.gate.isOpen = true then { isOpen := false, cause := .supplyCut }
      else s.gate := by
  rcases Nat.lt_or_ge s.supply.sample s.tables.active.vCut with hcut | hcut
  · simp [actOnSample_cut hvalid hcut, closeGate_gate, hcut]
  · rw [actOnSample_noCut hvalid hcut]
    split <;> simp [Nat.not_lt.mpr hcut]

/-- The flags a sample sets: SUPPLY_LOW and SUPPLY_CUT, and INSERT_LOST by the reply of a monitor test that a cut aborts. -/
theorem actOnSample_isSet (hvalid : s.tables.activeValid = true) {g : Flag} (h : g ≠ .insertLost) :
    g.isSet (actOnSample s).mgmt.flags =
      (g.isSet s.mgmt.flags || (decide (g = .supplyLow) && decide (s.supply.sample < s.tables.active.vLow)) ||
        (decide (g = .supplyCut) && decide (s.supply.sample < s.tables.active.vCut))) := by
  rcases Nat.lt_or_ge s.supply.sample s.tables.active.vCut with hcut | hcut
  · rw [actOnSample_cut hvalid hcut, closeGate_isSet _ _ h, setFlag_isSet, judgeLow_isSet]
    simp [hcut]
  · have hmgmt : (actOnSample s).mgmt = (judgeLow s).mgmt := by
      rw [actOnSample_noCut hvalid hcut]
      split <;> simp
    rw [hmgmt, judgeLow_isSet]
    simp [Nat.not_lt.mpr hcut]

theorem actOnSample_flags (hvalid : s.tables.activeValid = true) :
    Flag.supplyLow.isSet (actOnSample s).mgmt.flags =
        (Flag.supplyLow.isSet s.mgmt.flags || decide (s.supply.sample < s.tables.active.vLow)) ∧
      Flag.supplyCut.isSet (actOnSample s).mgmt.flags =
        (Flag.supplyCut.isSet s.mgmt.flags || decide (s.supply.sample < s.tables.active.vCut)) ∧
      OtherFlagsKept s.mgmt.flags (actOnSample s).mgmt.flags [.supplyLow, .supplyCut, .insertLost] := by
  refine ⟨by simp [actOnSample_isSet hvalid], by simp [actOnSample_isSet hvalid], fun g hg => ?_⟩
  simp only [List.mem_cons, List.not_mem_nil, or_false, not_or] at hg
  obtain ⟨hnotLow, hnotCut, hnotLost⟩ := hg
  simp [actOnSample_isSet hvalid hnotLost, hnotLow, hnotCut]

/-- A cut with the gate OPEN and no monitor test running (R126, R141). -/
theorem actOnSample_switchesOff (hvalid : s.tables.activeValid = true)
    (hcut : s.supply.sample < s.tables.active.vCut) (hopen : s.gate.isOpen = true) (hnone : NoTest s) :
    DrivesSwitchedOff s (actOnSample s) ∧ (actOnSample s).link = s.link ∧
      (actOnSample s).mgmt.executing = s.mgmt.executing := by
  obtain ⟨hlink, hmgmt⟩ := closeGate_of_noTest .supplyCut
    (NoTest.of_monitor (t := setFlag .supplyCut (judgeLow s)) hnone (by simp))
  have hoff := closeGate_drivesSwitchedOff (s := setFlag .supplyCut (judgeLow s)) .supplyCut (by simpa using hopen)
  rw [actOnSample_cut hvalid hcut]
  exact ⟨hoff.of_agree (by simp) (by simp) (by simp), hlink.trans (by simp),
    (congrArg Mgmt.executing hmgmt).trans (by simp)⟩

/-- No cut with the gate OPEN: the duties are formed anew with the sample (R110). -/
theorem actOnSample_reforms (hvalid : s.tables.activeValid = true)
    (hcut : s.tables.active.vCut ≤ s.supply.sample) (hopen : s.gate.isOpen = true) :
    (actOnSample s).monitor = s.monitor ∧ (actOnSample s).link = s.link ∧
      (actOnSample s).drive = { s.drive with corners := PerCorner.ofFn (reformed s) } := by
  have hreformed : reformed (judgeLow s) = reformed s := by
    funext c
    have hcorner : (judgeLow s).corner c = s.corner c := corner_of_drive (by simp) c
    simp only [reformed, hcorner, feedForward_of (s := s) (t := judgeLow s) (by simp) (by simp)]
  rw [actOnSample_noCut hvalid hcut, if_pos hopen, reformDuties_eq, hreformed]
  simp [State.setRecords]

/-- With the gate CLOSED a sample changes nothing of the drives (R110, R143). -/
theorem actOnSample_closed (hvalid : s.tables.activeValid = true) (hclosed : s.gate.isOpen = false) :
    (actOnSample s).drive = s.drive ∧ (actOnSample s).monitor = s.monitor ∧ (actOnSample s).link = s.link := by
  rcases Nat.lt_or_ge s.supply.sample s.tables.active.vCut with hcut | hcut
  · rw [actOnSample_cut hvalid hcut, closeGate_closed _ (by simpa using hclosed)]
    simp
  · simp [actOnSample_noCut hvalid hcut, hclosed]

end

theorem exec_supplyMeasurement {v : Nat} {s : State} (hreset : s.resetInProgress = false) (hv : v ≤ 20000) :
    exec (.supplyMeasurement v) s = .next (actOnSample (keepSample v s)) := by
  simp [exec, execSupplyMeasurement, hreset, Nat.not_lt.mpr hv]

/-- Settles O34: every clause is a law of `actOnSample` read at the state that has kept the sample. -/
theorem supplySamplesJudgeLowAndCut : Obligations.SupplySamplesJudgeLowAndCut := by
  constructor
  · intro v s hreset hv hvalid
    have hkept : (keepSample v s).tables.activeValid = true := hvalid
    obtain ⟨hsample, hlow, htables, htiming, hengine, hcapture⟩ := actOnSample_frame hkept
    obtain ⟨hbelow, hwithin, habove⟩ := judgeLow_low (keepSample v s)
    rw [← hlow] at hbelow hwithin habove
    obtain ⟨hlowFlag, hcutFlag, hothers⟩ := actOnSample_flags hkept
    refine ⟨_, exec_supplyMeasurement hreset hv, hsample, hbelow, hwithin, habove, hlowFlag, hcutFlag, hothers,
      actOnSample_gate hkept, htables, htiming, hengine, hcapture, fun hcut hopen => ?_,
      actOnSample_switchesOff hkept, actOnSample_closed hkept⟩
    obtain ⟨hmonitor, hlink, hdrive⟩ := actOnSample_reforms hkept hcut hopen
    have hcorner (c : Corner) : (actOnSample (keepSample v s)).corner c = reformed (keepSample v s) c := by
      simp [State.corner, hdrive]
    refine ⟨hmonitor, hlink, by rw [hdrive]; rfl, fun c => ⟨fun hheld _ => ?_, fun hnot => ?_⟩⟩
    · exact (hcorner c).trans (if_pos hheld)
    · exact (hcorner c).trans (if_neg (ne_true_of_eq_false hnot))
  · intro v s hreset hv hvalid hclosed
    rw [exec_supplyMeasurement hreset hv]
    simp [actOnSample, keepSample, hvalid, hclosed]

end Sys2Proof.Machine

/-! The requests that act on the gate and on latched faults (chapter 8): ENABLE_DRIVE, DISABLE_DRIVE and CLEAR_FAULTS. -/

namespace Sys2Proof.Machine

/-! ### The execution event of these requests (R178) -/

theorem execRequest_atExecution {s : State} {r : Request} {rest : List Request} {code : BitVec 7}
    (act : Request → State → State) (h : AtExecution s r rest code) :
    execRequest (· == code) act s = .next (act r (leaveQueue s rest)) := by
  obtain ⟨hreset, hidle, hqueue, hcode⟩ := h
  exact execRequest_runs act hreset hidle hqueue (by simp [hcode])

section
variable {s : State} {r : Request} {rest : List Request}

theorem exec_enableDrive (h : AtExecution s r rest codeEnableDrive) :
    exec .enableDrive s = .next (doEnableDrive r (leaveQueue s rest)) := execRequest_atExecution _ h

theorem exec_disableDrive (h : AtExecution s r rest codeDisableDrive) :
    exec .disableDrive s = .next (doDisableDrive r (leaveQueue s rest)) := execRequest_atExecution _ h

theorem exec_clearFaults (h : AtExecution s r rest codeClearFaults) :
    exec .clearFaults s = .next (doClearFaults r (leaveQueue s rest)) := execRequest_atExecution _ h

end

/-! ### ENABLE_DRIVE (R125, R144) -/

section
variable {s : State}

theorem doEnableDrive_open (r : Request) (hopen : s.gate.isOpen = true) : doEnableDrive r s = answer r .ok [] s := by
  simp [doEnableDrive, hopen]

theorem doEnableDrive_noActive (r : Request) (hclosed : s.gate.isOpen = false)
    (hinvalid : s.tables.activeValid = false) : doEnableDrive r s = answer r .refused [2#16] s := by
  simp [doEnableDrive, refuse, reasonNoActive, hclosed, hinvalid]

theorem doEnableDrive_noSource (r : Request) (hclosed : s.gate.isOpen = false) (hvalid : s.tables.activeValid = true)
    (hnoSource : s.timing.selected = none) : doEnableDrive r s = answer r .refused [3#16] s := by
  simp [doEnableDrive, refuse, reasonNoSource, hclosed, hvalid, hnoSource]

theorem doEnableDrive_supplyLow (r : Request) (hclosed : s.gate.isOpen = false) (hvalid : s.tables.activeValid = true)
    (hsource : s.timing.selected ≠ none) (hlow : s.supply.sample < s.tables.active.vLow) :
    doEnableDrive r s = answer r .refused [4#16] s := by
  simp [doEnableDrive, refuse, reasonSupplyLow, hclosed, hvalid, hsource, hlow]

theorem doEnableDrive_opens (r : Request) (hclosed : s.gate.isOpen = false) (hvalid : s.tables.activeValid = true)
    (hsource : s.timing.selected ≠ none) (henough : s.tables.active.vLow ≤ s.supply.sample) :
    doEnableDrive r s = answer r .ok [] (openGate s) := by
  simp [doEnableDrive, hclosed, hvalid, hsource, Nat.not_lt.mpr henough]

end

theorem openGate_gate (s : State) : (openGate s).gate = { s.gate with isOpen := true } := by
  unfold openGate
  exact foldl_keeps (fun t : State => t.gate) _ (fun _ _ => by split <;> simp) _ _

theorem openGate_of_off {s : State} (hnone : NoTest s) {c : Corner} (hoff : (s.corner c).state = .off) :
    (openGate s).corner c =
        { s.corner c with
          state := .hold
          target := s.tables.active.iFallback (axleOf c)
          duty := feedForward s c (s.tables.active.iFallback (axleOf c)) } ∧
      (openGate s).monitorOf c = settling s := by
  simpa [State.both, settling, hoff, hnone c] using both_openGate s c

theorem openGate_of_notOff {s : State} {c : Corner} (hnot : (s.corner c).state ≠ .off) :
    (openGate s).corner c = s.corner c ∧ (openGate s).monitorOf c = s.monitorOf c := by
  simpa [State.both, hnot] using both_openGate s c

/-! ### Both requests on the gate (R125, R126, R144, R145) -/

/-- Settles O45: ENABLE_DRIVE goes by R144's conditions in their order, and the opening and the closing are read corner by
corner; with no monitor test running neither touches the link, so the answer is that of the request alone. -/
theorem enableAndDisableDriveMoveTheGate : Obligations.EnableAndDisableDriveMoveTheGate := by
  constructor
  · intro s r rest hat hnone
    dsimp only
    rw [exec_enableDrive hat]
    refine ⟨fun hopen => congrArg _ (doEnableDrive_open r hopen), fun hclosed => ⟨fun hinvalid => ?_,
      fun hvalid hnoSource => ?_, fun hvalid hsource hlow => ?_, fun hvalid hsource henough => ?_⟩⟩
    · exact congrArg _ (doEnableDrive_noActive r hclosed hinvalid)
    · exact congrArg _ (doEnableDrive_noSource r hclosed hvalid hnoSource)
    · exact congrArg _ (doEnableDrive_supplyLow r hclosed hvalid hsource hlow)
    · rw [doEnableDrive_opens (s := leaveQueue s rest) r hclosed hvalid hsource henough]
      refine ⟨_, rfl, by simp [openGate_gate, leaveQueue], fun c hoff => ?_, fun c hnot => ?_, ?_,
        answer_link_of _ _ _ (by simp), answer_mgmt_of _ _ _ (by simp) (by simp), ?_⟩
      · rw [corner_answer, monitorOf_answer]
        exact openGate_of_off (s := leaveQueue s rest) hnone hoff
      · rw [corner_answer, monitorOf_answer]
        exact openGate_of_notOff (s := leaveQueue s rest) hnot
      · simp [leaveQueue]
      · simp [leaveQueue]
  · intro s r rest hat hnone
    rw [exec_disableDrive hat]
    refine ⟨fun hclosed => ?_, fun hopen => ?_⟩
    · rw [doDisableDrive, closeGate_closed (s := leaveQueue s rest) _ hclosed]
    · obtain ⟨hlink, hmgmt⟩ := closeGate_of_noTest (s := leaveQueue s rest) .command hnone
      have hoff : DrivesSwitchedOff s (closeGate .command (leaveQueue s rest)) :=
        closeGate_drivesSwitchedOff (s := leaveQueue s rest) .command hopen
      refine ⟨_, rfl, ?_, ?_, answer_link_of _ _ _ hlink, answer_mgmt_of _ _ _ hlink hmgmt, ?_⟩
      · simp [doDisableDrive, closeGate_gate, leaveQueue, hopen]
      · simpa [DrivesSwitchedOff, doDisableDrive] using hoff
      · simp [doDisableDrive, leaveQueue]

/-! ### CLEAR_FAULTS at one corner (R135) -/

/-- The counts that R135 clears at every named corner. -/
def clearCounts (c : Corner) (s : State) : State :=
  (s.setMonitor c { s.monitorOf c with deviation := 0, stuck := 0 }).setCorner c { s.corner c with timeouts := 0 }

/-- What CLEAR_FAULTS makes of a named corner's record and monitor items. -/
def faultCleared (s : State) (c : Corner) : DriveRecord × MonitorRecord :=
  if (s.corner c).state = .fault then
    if s.gate.isOpen then
      ({ s.corner c with
          state := .hold, target := fallbackOf s c, duty := feedForward s c (fallbackOf s c), timeouts := 0 },
        settling s)
    else ({ s.corner c with state := .off, duty := 0, outputDuty := 0, timeouts := 0 }, settling s)
  else ({ s.corner c with timeouts := 0 }, { s.monitorOf c with deviation := 0, stuck := 0 })

theorem clearFault_eq (c : Corner) (s : State) :
    clearFault c s =
      if (s.corner c).state = .fault then
        if s.gate.isOpen then toHold c (fallbackOf s c) (clearCounts c s) else toOff c (clearCounts c s)
      else clearCounts c s := by
  cases c <;> rfl

theorem corner_clearCounts (c d : Corner) (s : State) :
    (clearCounts c s).corner d = if d = c then { s.corner c with timeouts := 0 } else s.corner d :=
  corner_setCorner _ _ _ _

theorem monitorOf_clearCounts (c d : Corner) (s : State) :
    (clearCounts c s).monitorOf d =
      if d = c then { s.monitorOf c with deviation := 0, stuck := 0 } else s.monitorOf d :=
  monitorOf_setMonitor _ _ _ _

@[simp] theorem clearCounts_frame (c : Corner) (s : State) :
    (clearCounts c s).pending = s.pending ∧ (clearCounts c s).resetInProgress = s.resetInProgress ∧
      (clearCounts c s).link = s.link ∧ (clearCounts c s).capture = s.capture ∧
      (clearCounts c s).timing = s.timing ∧ (clearCounts c s).engine = s.engine ∧
      (clearCounts c s).tables = s.tables ∧ (clearCounts c s).supply = s.supply ∧
      (clearCounts c s).gate = s.gate ∧ (clearCounts c s).mgmt = s.mgmt ∧
      (clearCounts c s).drive.slots = s.drive.slots ∧ (clearCounts c s).drive.waiting = s.drive.waiting ∧
      (clearCounts c s).drive.staggered = s.drive.staggered := by
  simp [clearCounts]

@[simp] theorem clearFault_frame (c : Corner) (s : State) :
    (clearFault c s).pending = s.pending ∧ (clearFault c s).resetInProgress = s.resetInProgress ∧
      (clearFault c s).capture = s.capture ∧ (clearFault c s).timing = s.timing ∧
      (clearFault c s).engine = s.engine ∧ (clearFault c s).tables = s.tables ∧
      (clearFault c s).supply = s.supply ∧ (clearFault c s).gate = s.gate ∧
      (clearFault c s).drive.slots = s.drive.slots ∧ (clearFault c s).drive.waiting = s.drive.waiting ∧
      (clearFault c s).drive.staggered = s.drive.staggered := by
  rw [clearFault_eq]
  split
  · split <;> simp
  · simp

theorem both_clearFault_ne (s : State) {c d : Corner} (h : d ≠ c) : (clearFault c s).both d = s.both d := by
  rw [clearFault_eq]
  split
  · split
    · simp [State.both, corner_toHold, monitorOf_toHold, corner_clearCounts, monitorOf_clearCounts, h]
    · simp [State.both, corner_toOff, monitorOf_toOff, corner_clearCounts, monitorOf_clearCounts, h]
  · simp [State.both, corner_clearCounts, monitorOf_clearCounts, h]

theorem both_clearFault_same {s : State} {c : Corner} (hnone : (s.monitorOf c).test = none) :
    (clearFault c s).both c = faultCleared s c := by
  have hduty : feedForward (clearCounts c s) c (fallbackOf s c) = feedForward s c (fallbackOf s c) :=
    feedForward_of (by simp) (by simp) c _
  rw [clearFault_eq, faultCleared]
  split
  · split
    · simp [State.both, corner_toHold, monitorOf_toHold, corner_clearCounts, monitorOf_clearCounts, hduty, settling,
        hnone]
    · simp [State.both, corner_toOff, monitorOf_toOff, corner_clearCounts, settling]
  · simp [State.both, corner_clearCounts, monitorOf_clearCounts]

/-- Neither the clearing of the counts nor the entry into HOLD touches a monitor test. -/
theorem test_clearCounts (c d : Corner) (s : State) :
    ((clearCounts c s).monitorOf d).test = (s.monitorOf d).test := by
  by_cases e : d = c <;> simp [monitorOf_clearCounts, e]

theorem test_toHold (c d : Corner) (i : Nat) (s : State) :
    ((toHold c i s).monitorOf d).test = (s.monitorOf d).test := by
  by_cases e : d = c <;> simp [monitorOf_toHold, e]

/-- With no monitor test running, clearing a corner's fault answers no request. -/
theorem clearFault_of_noTest {s : State} (h : NoTest s) (c : Corner) :
    NoTest (clearFault c s) ∧ (clearFault c s).link = s.link ∧ (clearFault c s).mgmt = s.mgmt := by
  have hcounts : NoTest (clearCounts c s) := fun d => (test_clearCounts c d s).trans (h d)
  rw [clearFault_eq]
  split
  · split
    · exact ⟨fun d => (test_toHold c d _ _).trans (hcounts d), by simp, by simp⟩
    · simpa using toOff_of_noTest hcounts c
  · exact ⟨hcounts, by simp, by simp⟩

/-! ### CLEAR_FAULTS at the named corners (R135, R192) -/

theorem mem_maskCorners (w : Word) (c : Corner) : c ∈ maskCorners w ↔ w.getLsbD (cornerCode c) = true := by
  simp [maskCorners, mem_corners]

theorem maskCorners_nodup (w : Word) : (maskCorners w).Nodup := corners_nodup.filter _

/-- The effect of CLEAR_FAULTS, its answer apart. -/
def clearNamed (w : Word) (s : State) : State := (maskCorners w).foldl (fun s' c => clearFault c s') s

theorem doClearFaults_cons {r : Request} {w : Word} {ws : List Word} (h : r.operands = w :: ws) (s : State) :
    doClearFaults r s = answer r .ok [] (clearNamed w s) := by
  simp [doClearFaults, h, clearNamed]

theorem doClearFaults_nil {r : Request} (h : r.operands = []) (s : State) :
    doClearFaults r s = answer r .invalid [] s := by
  simp [doClearFaults, h, invalid]

@[simp] theorem clearNamed_frame (w : Word) (s : State) :
    (clearNamed w s).pending = s.pending ∧ (clearNamed w s).resetInProgress = s.resetInProgress ∧
      (clearNamed w s).capture = s.capture ∧ (clearNamed w s).timing = s.timing ∧
      (clearNamed w s).engine = s.engine ∧ (clearNamed w s).tables = s.tables ∧
      (clearNamed w s).supply = s.supply ∧ (clearNamed w s).gate = s.gate ∧
      (clearNamed w s).drive.slots = s.drive.slots ∧ (clearNamed w s).drive.waiting = s.drive.waiting ∧
      (clearNamed w s).drive.staggered = s.drive.staggered := by
  unfold clearNamed
  exact ⟨foldl_keeps State.pending _ (fun _ _ => by simp) _ _,
    foldl_keeps State.resetInProgress _ (fun _ _ => by simp) _ _,
    foldl_keeps State.capture _ (fun _ _ => by simp) _ _,
    foldl_keeps State.timing _ (fun _ _ => by simp) _ _,
    foldl_keeps State.engine _ (fun _ _ => by simp) _ _,
    foldl_keeps State.tables _ (fun _ _ => by simp) _ _,
    foldl_keeps State.supply _ (fun _ _ => by simp) _ _,
    foldl_keeps State.gate _ (fun _ _ => by simp) _ _,
    foldl_keeps (fun t : State => t.drive.slots) _ (fun _ _ => by simp) _ _,
    foldl_keeps (fun t : State => t.drive.waiting) _ (fun _ _ => by simp) _ _,
    foldl_keeps (fun t : State => t.drive.staggered) _ (fun _ _ => by simp) _ _⟩

theorem clearNamed_of_noTest {s : State} (h : NoTest s) (w : Word) :
    (clearNamed w s).link = s.link ∧ (clearNamed w s).mgmt = s.mgmt := by
  have hkept : NoTest (clearNamed w s) ∧ (clearNamed w s).link = s.link ∧ (clearNamed w s).mgmt = s.mgmt := by
    refine List.foldlRecOn (motive := fun t : State => NoTest t ∧ t.link = s.link ∧ t.mgmt = s.mgmt) (maskCorners w) _
      ⟨h, rfl, rfl⟩ fun t ht c _ => ?_
    obtain ⟨hnone, hlink, hmgmt⟩ := ht
    obtain ⟨hnone', hlink', hmgmt'⟩ := clearFault_of_noTest hnone c
    exact ⟨hnone', hlink'.trans hlink, hmgmt'.trans hmgmt⟩
  exact hkept.2

theorem both_clearNamed_of_unnamed {w : Word} {c : Corner} (h : w.getLsbD (cornerCode c) = false) (s : State) :
    (clearNamed w s).both c = s.both c :=
  foldl_corner_other State.both _ (fun s _ _ hd => both_clearFault_ne s hd) _ s c (by simp [mem_maskCorners, h])

/-- What R135 makes of a corner depends on the corner itself, the tables, the supply and the gate. -/
theorem faultCleared_of {s t : State} {c : Corner} (hboth : t.both c = s.both c) (htables : t.tables = s.tables)
    (hsupply : t.supply = s.supply) (hgate : t.gate = s.gate) : faultCleared t c = faultCleared s c := by
  have hcorner : t.corner c = s.corner c := congrArg Prod.fst hboth
  have hmonitor : t.monitorOf c = s.monitorOf c := congrArg Prod.snd hboth
  simp only [faultCleared, fallbackOf, settling, hcorner, hmonitor, htables, hgate,
    feedForward_of (congrArg Tables.active htables) (congrArg Supply.sample hsupply)]

/-- The corners named before leave a named corner to be cleared as it stood. -/
theorem both_clearNamed_of_named {s : State} {w : Word} {c : Corner} (hnone : (s.monitorOf c).test = none)
    (h : w.getLsbD (cornerCode c) = true) : (clearNamed w s).both c = faultCleared s c := by
  obtain ⟨s', ⟨htables, hsupply, hgate⟩, hboth, hfold⟩ := foldl_corner_at State.both (fun s' c => clearFault c s')
    (fun s _ _ hd => both_clearFault_ne s hd)
    (fun s' => s'.tables = s.tables ∧ s'.supply = s.supply ∧ s'.gate = s.gate)
    (fun s' c hs => by simpa using hs)
    (maskCorners w) (maskCorners_nodup w) s ⟨rfl, rfl, rfl⟩ c ((mem_maskCorners w c).mpr h)
  have hmonitor : s'.monitorOf c = s.monitorOf c := congrArg Prod.snd hboth
  calc (clearNamed w s).both c = (clearFault c s').both c := hfold
    _ = faultCleared s' c := both_clearFault_same (by rw [hmonitor]; exact hnone)
    _ = faultCleared s c := faultCleared_of hboth htables hsupply hgate

/-- Settles O47: the named corners are cleared one after another, and each is cleared as it stood before the request. -/
theorem clearFaultsActsOnTheNamedCorners : Obligations.ClearFaultsActsOnTheNamedCorners := by
  intro s r rest hat hnone
  rw [exec_clearFaults hat]
  refine ⟨fun hnil => congrArg _ (doClearFaults_nil hnil _), fun w ws hcons => ?_⟩
  obtain ⟨hlink, hmgmt⟩ := clearNamed_of_noTest (s := leaveQueue s rest) hnone w
  rw [doClearFaults_cons hcons]
  refine ⟨_, rfl, fun c hunnamed => ?_, fun c hnamed => ?_, by simp [leaveQueue], answer_link_of _ _ _ hlink,
    answer_mgmt_of _ _ _ hlink hmgmt, by simp [leaveQueue]⟩
  · have hboth : (clearNamed w (leaveQueue s rest)).both c = s.both c := both_clearNamed_of_unnamed hunnamed _
    simpa [State.both] using hboth
  · have hboth : (clearNamed w (leaveQueue s rest)).both c = faultCleared s c :=
      both_clearNamed_of_named (s := leaveQueue s rest) (hnone c) hnamed
    refine ⟨fun hnoFault => ?_, fun hfault hopen => ?_, fun hfault hclosed => ?_⟩
    · simpa [State.both, faultCleared, hnoFault] using hboth
    · simpa [State.both, faultCleared, fallbackOf, hfault, hopen] using hboth
    · simpa [State.both, faultCleared, hfault, hclosed] using hboth

end Sys2Proof.Machine

/-! The requests of chapter 11 that empty the queue, restart the control chain and clear flags: ABORT, RESET_CONTROL and
CLEAR_FLAGS. -/

namespace Sys2Proof.Machine

/-! ### A consumed REQUEST (R167, R177) -/

section
variable {s : State} {p : Port} {ws : List Word} {d w : Bool}

theorem judgeReception_consumed (hcheck : passesCheck ws d w = true) (hformat : wellFormatted ws = true)
    (hkind : headerKind (frameHeader ws) = kindRequest)
    (hident : headerIdent (frameHeader ws) = s.link.nodeAddress.toNat) : judgeReception s p ws d w = .consumed := by
  simp [judgeReception, hcheck, hformat, hkind, hident]

/-- A REQUEST addressed to the part is counted and taken by the Management Unit. -/
theorem exec_receptionCompletion_consumed (o : Bool) (hrun : s.resetInProgress = false)
    (hjudged : judgeReception s p ws d w = .consumed) :
    exec (.receptionCompletion p ws d w o) s =
      .next (takeRequestFrame p (framePayload ws)
        (recount s p
          { (s.port p).counters with
            received := (s.port p).counters.received + 1, consumed := (s.port p).counters.consumed + 1 })) := by
  simp only [exec, execReceptionCompletion, State.portsCutOff, hrun, hjudged]
  rfl

end

theorem takeRequestFrame_abort {x : Word} (p : Port) (ops : List Word) (s : State)
    (h : requestCommand x = codeAbort) : takeRequestFrame p (x :: ops) s = abortRequests (requestOf p x ops) s :=
  if_pos h

/-! ### The waiting state of a cancelled request (R56, R138, R161, R182) -/

/-- The monitor's items once every running test has ended with its deviation count 0. -/
def testsEnded (s : State) : PerCorner MonitorRecord :=
  PerCorner.ofFn fun c =>
    if (s.monitorOf c).test.isSome then { s.monitorOf c with deviation := 0, test := none } else s.monitorOf c

/-- The state with nothing left of what a request in execution waits for. -/
def waitingUndone (s : State) : State :=
  { s with
    tables := { s.tables with commitPending := false }
    engine := { s.engine with pendingProgramme := none }
    monitor := testsEnded s }

section
variable {s : State}

theorem tables_of_noCommit (h : s.tables.commitPending = false) :
    { s.tables with commitPending := false } = s.tables := by
  rw [← h]

theorem engine_of_noProgramme (h : s.engine.pendingProgramme = none) :
    { s.engine with pendingProgramme := none } = s.engine := by
  rw [← h]

theorem testsEnded_of_noTest (h : NoTest s) : testsEnded s = s.monitor :=
  PerCorner.ext_get fun c => by
    rw [testsEnded, PerCorner.get_ofFn, h c]
    rfl

/-- With no request in execution no owner waits. -/
theorem waitingUndone_of_idle (hinv : RequestInv s) (hidle : s.mgmt.executing = none) : waitingUndone s = s := by
  obtain ⟨-, howner⟩ := hinv
  rw [hidle] at howner
  obtain ⟨hcommit, hprogramme, hnone⟩ := howner
  rw [waitingUndone, tables_of_noCommit hcommit, engine_of_noProgramme hprogramme, testsEnded_of_noTest hnone]

/-- The owner of the request in execution is the only one that waits: when it undoes its waiting state, none is left. -/
theorem cancelWaiting_executing {x : Request} (hinv : RequestInv s) (hx : s.mgmt.executing = some x) :
    cancelWaiting x s = waitingUndone s := by
  obtain ⟨-, howner⟩ := hinv
  rw [hx] at howner
  obtain ⟨hcode, -, hprogramme, hnone⟩ | ⟨hcode, hcommit, -, hnone⟩ | ⟨hcode, hcommit, hprogramme, -⟩ := howner
  · rw [waitingUndone, engine_of_noProgramme hprogramme, testsEnded_of_noTest hnone]
    simp [cancelWaiting, hcode]
  · rw [waitingUndone, tables_of_noCommit hcommit, testsEnded_of_noTest hnone]
    simp [cancelWaiting, hcode, codeSetProgramme, codeCommit]
  · rw [waitingUndone, tables_of_noCommit hcommit, engine_of_noProgramme hprogramme]
    simp [cancelWaiting, hcode, codeMonitorTest, codeSetProgramme, codeCommit, testsEnded]

end

/-! ### ABORT (R182) -/

/-- No request is queued and none is in execution. -/
def requestsRemoved (s : State) : State := { s with mgmt := { s.mgmt with executing := none, queue := [] } }

theorem abortRequests_eq {s : State} (r : Request) (hinv : RequestInv s) :
    abortRequests r s = answer r .ok (abortData s) (requestsRemoved (waitingUndone s)) := by
  unfold abortRequests
  cases hx : s.mgmt.executing with
  | none => rw [waitingUndone_of_idle hinv hx]; rfl
  | some x => rw [← cancelWaiting_executing hinv hx]; rfl

/-- An answer changes the flag word as the link and the flag word decide. -/
theorem answer_flags_of {s t : State} (r : Request) (x : Result) (data : List Word) (h : t.link = s.link)
    (g : t.mgmt.flags = s.mgmt.flags) : (answer r x data t).mgmt.flags = (answer r x data s).mgmt.flags := by
  unfold answer offerFrame State.port
  rw [h]
  repeat' split
  all_goals simp [g]

section
variable {s : State} (r : Request) (hinv : RequestInv s)
include hinv

theorem abortRequests_link : (abortRequests r s).link = (answer r .ok (abortData s) s).link := by
  rw [abortRequests_eq r hinv]
  exact answer_link_of _ _ _ rfl

theorem abortRequests_flags : (abortRequests r s).mgmt.flags = (answer r .ok (abortData s) s).mgmt.flags := by
  rw [abortRequests_eq r hinv]
  exact answer_flags_of _ _ _ rfl rfl

theorem monitorOf_abortRequests (c : Corner) :
    (abortRequests r s).monitorOf c =
      if (s.monitorOf c).test.isSome then { s.monitorOf c with deviation := 0, test := none } else s.monitorOf c := by
  rw [abortRequests_eq r hinv, monitorOf_answer]
  exact PerCorner.get_ofFn _ c

theorem abortRequests_mgmt_and_owners :
    (abortRequests r s).mgmt.queue = [] ∧ (abortRequests r s).mgmt.executing = none ∧
      (abortRequests r s).mgmt.captures = s.mgmt.captures ∧
      (abortRequests r s).tables = { s.tables with commitPending := false } ∧
      (abortRequests r s).engine = { s.engine with pendingProgramme := none } := by
  rw [abortRequests_eq r hinv]
  simp [requestsRemoved, waitingUndone]

theorem abortRequests_frame :
    (abortRequests r s).drive = s.drive ∧ (abortRequests r s).timing = s.timing ∧
      (abortRequests r s).capture = s.capture ∧ (abortRequests r s).supply = s.supply ∧
      (abortRequests r s).gate = s.gate := by
  rw [abortRequests_eq r hinv]
  simp [requestsRemoved, waitingUndone]

end

/-- Settles O36: the owner of the request in execution is the only one that waits, so undoing its waiting state leaves
no waiting state at all; the counting of the frame touches only the port's counters, which no owner reads. -/
theorem abortEmptiesTheQueue : Obligations.AbortEmptiesTheQueue := by
  intro p ws d w o s x ops hrun hinv hcheck hformat hkind hident hpayload hcode
  have habort : requestCommand x = codeAbort := BitVec.eq_of_toNat_eq hcode
  have hrequest : requestOf p x ops =
      { tag := x.extractLsb' 8 8, quiet := x.getLsbD 7, command := 13#7, operands := ops, port := p } := by
    rw [requestOf, habort]
    rfl
  have hcounted (k : Counters) : RequestInv (recount s p k) := hinv
  refine ⟨_, _, exec_receptionCompletion_consumed o hrun (judgeReception_consumed hcheck hformat hkind hident), rfl, ?_⟩
  rw [hpayload, takeRequestFrame_abort p ops _ habort, hrequest]
  obtain ⟨hqueue, hidle, hcaptures, htables, hengine⟩ := abortRequests_mgmt_and_owners _ (hcounted _)
  exact ⟨abortRequests_link _ (hcounted _), abortRequests_flags _ (hcounted _), hqueue, hidle, hcaptures, htables,
    hengine, monitorOf_abortRequests _ (hcounted _), abortRequests_frame _ (hcounted _)⟩

/-! ### RESET_CONTROL (R188) -/

theorem exec_resetControl {s : State} {r : Request} {rest : List Request} (h : AtExecution s r rest codeResetControl) :
    exec .resetControl s = .next (doResetControl r (leaveQueue s rest)) := execRequest_atExecution _ h

theorem doResetControl_open {s : State} (r : Request) (h : s.gate.isOpen = true) :
    doResetControl r s = answer r .refused [7#16] s := by
  simp [doResetControl, refuse, reasonGateOpen, h]

theorem doResetControl_closed {s : State} (r : Request) (h : s.gate.isOpen = false) :
    doResetControl r s = answer r .ok [] (resetControl s) := by
  simp [doResetControl, h]

theorem engineIsReset_of {t : State} {programme : Programme} (h : t.engine = Engine.reset programme) :
    EngineIsReset t := by
  have hwindows (d : Side) : (Engine.reset programme).windows.get d = Window.reset := by cases d <;> rfl
  rw [EngineIsReset, h]
  refine ⟨rfl, fun c => PerCorner.get_all _ c, fun c => PerCorner.get_all _ c, rfl, rfl, rfl, hwindows, ?_⟩
  simp [Engine.reset]

theorem monitorAndGateAreReset_of {t : State} (hmonitor : t.monitor = PerCorner.all MonitorRecord.reset)
    (hgate : t.gate = Gate.reset) : MonitorAndGateAreReset t :=
  ⟨fun c => by rw [State.monitorOf, hmonitor, PerCorner.get_all]; rfl, hgate⟩

/-- The records take their values, and each PWM period runs on (R108, R129). -/
theorem driveIsReset_of_resetControl {s t : State} (h : t.drive = (resetControl s).drive) :
    DriveIsReset t (fun c => (s.corner c).periodLength) (fun c => (s.corner c).periodEnded) := by
  rw [DriveIsReset, h]
  refine ⟨rfl, rfl, fun c => PerCorner.get_all _ c, fun c => ?_⟩
  rw [State.corner, h]
  exact PerCorner.get_ofFn _ c

/-- Settles O51: the gate decides, and each block's value is read from the control chain restarted, which the answer
leaves as it is. -/
theorem resetControlRestartsTheControlChain : Obligations.ResetControlRestartsTheControlChain := by
  intro s r rest hat
  rw [exec_resetControl hat]
  refine ⟨fun hopen => congrArg _ (doResetControl_open r hopen), fun hclosed => ?_⟩
  rw [doResetControl_closed (s := leaveQueue s rest) r hclosed]
  have hengine : (answer r .ok [] (resetControl (leaveQueue s rest))).engine = Engine.reset s.engine.programme := by
    simp [resetControl, leaveQueue]
  refine ⟨_, rfl, engineIsReset_of hengine, by rw [hengine]; rfl, by simp [resetControl, leaveQueue], fun g => ?_, ?_,
    driveIsReset_of_resetControl (s := leaveQueue s rest) (by simp),
    monitorAndGateAreReset_of (by simp [resetControl]) (by simp [resetControl]), ?_, ?_,
    answer_link_of _ _ _ rfl, answer_mgmt_of _ _ _ rfl rfl⟩
  · simp [resetControl, leaveQueue, State.setLive, Config.ageMax]
  · simp [resetControl, leaveQueue, State.setLive]
  · simp [resetControl, leaveQueue]
  · simp [resetControl, leaveQueue]

/-! ### CLEAR_FLAGS (R187) -/

theorem exec_clearFlags {s : State} {r : Request} {rest : List Request} (h : AtExecution s r rest codeClearFlags) :
    exec .clearFlags s = .next (doClearFlags r (leaveQueue s rest)) := execRequest_atExecution _ h

theorem doClearFlags_nil {r : Request} (h : r.operands = []) (s : State) :
    doClearFlags r s = answer r .invalid [] s := by
  simp [doClearFlags, h, invalid]

theorem doClearFlags_cons {r : Request} {w : Word} {ws : List Word} (h : r.operands = w :: ws) (s : State) :
    doClearFlags r s = answer r .ok [s.mgmt.flags, s.mgmt.flags &&& ~~~w] (clearFlags w s) := by
  simp [doClearFlags, h]

theorem flag_bit_lt (f : Flag) : f.bit < 16 := by cases f <;> decide

theorem flag_isSet_andNot (f : Flag) (v w : Word) : f.isSet (v &&& ~~~w) = (f.isSet v && !f.isSet w) := by
  simp [Flag.isSet, flag_bit_lt]

/-- Settles O48: the word after the clearing is the word before it without the bits of the flags named. -/
theorem clearFlagsAnswersBeforeAndAfter : Obligations.ClearFlagsAnswersBeforeAndAfter := by
  intro s r rest hat
  rw [exec_clearFlags hat]
  refine ⟨fun hnil => congrArg _ (doClearFlags_nil hnil _), fun w ws hcons => ?_⟩
  exact ⟨s.mgmt.flags &&& ~~~w, fun f => flag_isSet_andNot f _ w, congrArg _ (doClearFlags_cons hcons _)⟩

end Sys2Proof.Machine

/-! What every step keeps: an invariant that each event of the part keeps, one by one, is kept by every step. -/

namespace Sys2Proof.Machine

/-- An event that a reset in progress shuts out, and what it does otherwise (log entry 5). -/
theorem shutOut_or_runs {reset : Bool} {s t : State} {o : Host.Outcome State Fault Refusal}
    (h : (if reset then .next s else o) = .next t) : s = t ∨ reset = false ∧ o = .next t := by
  cases reset with
  | true => exact .inl (Host.Outcome.next.inj h)
  | false => exact .inr ⟨rfl, h⟩

/-- The execution event of a request keeps what holds before it, where the request's own action keeps it. -/
theorem execRequest_keeps {P : State → Prop} {isIt : BitVec 7 → Bool} {act : Request → State → State} {s t : State}
    (hP : P s) (h : execRequest isIt act s = .next t)
    (hact : ∀ r rest, AtExecution s r rest r.command → isIt r.command = true → P (act r (leaveQueue s rest))) :
    P t := by
  unfold execRequest at h
  obtain rfl | ⟨hreset, h⟩ := shutOut_or_runs h
  · exact hP
  · split at h
    · rename_i r rest hidle hqueue
      split at h
      · rename_i hcode
        cases h
        exact hact r rest ⟨hreset, hidle, hqueue, rfl⟩ hcode
      · cases h
        exact hP
    · cases h
      exact hP
    · cases h
      exact hP

/-- The same for a request known by its one code. -/
theorem execRequest_code_keeps {P : State → Prop} {code : BitVec 7} {act : Request → State → State} {s t : State}
    (hP : P s) (h : execRequest (· == code) act s = .next t)
    (hact : ∀ r rest, AtExecution s r rest code → P (act r (leaveQueue s rest))) : P t :=
  execRequest_keeps hP h fun r rest hat hcode => by
    obtain ⟨hreset, hidle, hqueue, -⟩ := hat
    exact hact r rest ⟨hreset, hidle, hqueue, by simpa using hcode⟩

/-- Every event of the part, taken in a state in which it occurs, keeps `P` where `A` holds too. -/
structure EventsKeep (A P : State → Prop) : Prop where
  dequeued : ∀ {s : State} (rest : List Instr), A s → P s → A { s with pending := rest } ∧ P { s with pending := rest }
  received : ∀ {s : State} (p : Port) (ws : List Word) (d w o : Bool), s.resetInProgress = false → A s → P s →
    P (receive p ws o (countAt p (judgeReception s p ws d w) s) (judgeReception s p ws d w))
  transmitted : ∀ {s : State} {p : Port} {x : Transmission}, (s.port p).line = some x → A s → P s →
    P (s.setPort p ((s.port p).complete x).start)
  silenced : ∀ {s : State} {src : Source} {timeout : Nat} (o : Bool),
    s.timing.sources.get src = .alive timeout → A s → P s →
    P (reevaluate o (s.setSources (s.timing.sources.set src .silent)))
  completed : ∀ {s : State} {y : Cycle}, AtCompletion s y → A s → P s → P (stageDelivery y (writeResults y s))
  staggered : ∀ {s : State} {c : Corner} {u : Staggered}, s.drive.staggered.get c = some u → A s → P s →
    P (updateTarget c u.target (s.setStaggered (s.drive.staggered.set c none)))
  boostExpired : ∀ {s : State} {c : Corner} {timeout : Nat}, (s.corner c).state = .boost timeout → A s → P s →
    P (endBoost c (s.corner c).target (setFlag .boostTimeout (countTimeout c s)))
  measured : ∀ {s : State} (c : Corner) (m : Nat), m ≤ 2500 → A s → P s →
    P (endPeriod c (actOnMeasurement c m (keepMeasurement c m (runPeriod c s))))
  sampled : ∀ {s : State} {v : Nat}, v ≤ 20000 → A s → P s → P (actOnSample (keepSample v s))
  nop : ∀ {s : State} {r : Request} {rest : List Request}, AtExecution s r rest codeNop → A s → P s →
    P (doNop r (leaveQueue s rest))
  load : ∀ {s : State} {r : Request} {rest : List Request}, AtExecution s r rest codeLoad → A s → P s →
    P (doLoad r (leaveQueue s rest))
  readTable : ∀ {s : State} {r : Request} {rest : List Request}, AtExecution s r rest codeReadTable → A s → P s →
    P (doReadTable r (leaveQueue s rest))
  commit : ∀ {s : State} {r : Request} {rest : List Request}, AtExecution s r rest codeCommit → A s → P s →
    P (doCommit r (leaveQueue s rest))
  discard : ∀ {s : State} {r : Request} {rest : List Request}, AtExecution s r rest codeDiscard → A s → P s →
    P (doDiscard r (leaveQueue s rest))
  setProgramme : ∀ {s : State} {r : Request} {rest : List Request}, AtExecution s r rest codeSetProgramme → A s → P s →
    P (doSetProgramme r (leaveQueue s rest))
  enableDrive : ∀ {s : State} {r : Request} {rest : List Request}, AtExecution s r rest codeEnableDrive → A s → P s →
    P (doEnableDrive r (leaveQueue s rest))
  disableDrive : ∀ {s : State} {r : Request} {rest : List Request}, AtExecution s r rest codeDisableDrive → A s → P s →
    P (doDisableDrive r (leaveQueue s rest))
  monitorTest : ∀ {s : State} {r : Request} {rest : List Request}, AtExecution s r rest codeMonitorTest → A s → P s →
    P (doMonitorTest r (leaveQueue s rest))
  clearFaults : ∀ {s : State} {r : Request} {rest : List Request}, AtExecution s r rest codeClearFaults → A s → P s →
    P (doClearFaults r (leaveQueue s rest))
  clearFlags : ∀ {s : State} {r : Request} {rest : List Request}, AtExecution s r rest codeClearFlags → A s → P s →
    P (doClearFlags r (leaveQueue s rest))
  readState : ∀ {s : State} {r : Request} {rest : List Request}, AtExecution s r rest codeReadState → A s → P s →
    P (doReadState r (leaveQueue s rest))
  resetControl : ∀ {s : State} {r : Request} {rest : List Request}, AtExecution s r rest codeResetControl → A s → P s →
    P (doResetControl r (leaveQueue s rest))
  unknown : ∀ {s : State} {r : Request} {rest : List Request}, AtExecution s r rest r.command → A s → P s →
    P (invalid r (leaveQueue s rest))
  powerOn : ∀ {s : State}, A s → P s → P (resetBlocks Tables.powerOn Flag.powerOn.mask s)
  resetLine : ∀ {s : State}, A s → P s →
    P (resetBlocks { s.tables with commitPending := false } (s.mgmt.flags &&& Flag.powerOn.mask) s)
  resetEnded : ∀ {s : State} (straps : BitVec 6), A s → P s →
    P { s with
      resetInProgress := false
      link := { s.link with nodeAddress := straps }
      drive := (startPeriods s).drive }

section
variable {A P : State → Prop} (k : EventsKeep A P) {s t : State}
include k

/-- Every command keeps it: a command whose event does not occur leaves the state as it is (log entry 1). -/
theorem EventsKeep.exec {i : Instr} (hA : A s) (hP : P s) (h : exec i s = .next t) : P t := by
  cases i with
  | receptionCompletion p ws d w o =>
    obtain rfl | ⟨hreset, ht⟩ := shutOut_or_runs h
    · exact hP
    · cases ht
      exact k.received p ws d w o hreset hA hP
  | transmitCompletion p =>
    obtain rfl | ⟨hreset, h⟩ := shutOut_or_runs h
    · exact hP
    · split at h
      · cases h; exact hP
      · rename_i x hline
        cases h
        exact k.transmitted hline hA hP
  | silenceTimerExpiry src o =>
    obtain rfl | ⟨hreset, h⟩ := shutOut_or_runs h
    · exact hP
    · split at h
      · cases h; exact hP
      · rename_i timeout halive
        cases h
        exact k.silenced o halive hA hP
  | computationCompletion =>
    obtain rfl | ⟨hreset, h⟩ := shutOut_or_runs h
    · exact hP
    · split at h
      · cases h; exact hP
      · rename_i y hcomputing
        cases h
        exact k.completed ⟨hreset, hcomputing⟩ hA hP
  | staggeredUpdate c =>
    obtain rfl | ⟨hreset, h⟩ := shutOut_or_runs h
    · exact hP
    · split at h
      · cases h; exact hP
      · rename_i u hu
        cases h
        exact k.staggered hu hA hP
  | boostTimerExpiry c =>
    obtain rfl | ⟨hreset, h⟩ := shutOut_or_runs h
    · exact hP
    · split at h
      · rename_i timeout hboost
        cases h
        exact k.boostExpired hboost hA hP
      all_goals
        cases h
        exact hP
  | currentMeasurement c m =>
    obtain rfl | ⟨hreset, h⟩ := shutOut_or_runs h
    · exact hP
    · cases h
      exact k.measured c _ (Nat.min_le_left _ _) hA hP
  | supplyMeasurement v =>
    simp only [Machine.exec, execSupplyMeasurement] at h
    split at h
    · cases h
    · rename_i hv
      obtain rfl | ⟨hreset, h⟩ := shutOut_or_runs h
      · exact hP
      · cases h
        exact k.sampled (Nat.not_lt.mp hv) hA hP
  | nop => exact execRequest_code_keeps hP h fun _ _ hat => k.nop hat hA hP
  | load => exact execRequest_code_keeps hP h fun _ _ hat => k.load hat hA hP
  | readTable => exact execRequest_code_keeps hP h fun _ _ hat => k.readTable hat hA hP
  | commit => exact execRequest_code_keeps hP h fun _ _ hat => k.commit hat hA hP
  | discard => exact execRequest_code_keeps hP h fun _ _ hat => k.discard hat hA hP
  | setProgramme => exact execRequest_code_keeps hP h fun _ _ hat => k.setProgramme hat hA hP
  | enableDrive => exact execRequest_code_keeps hP h fun _ _ hat => k.enableDrive hat hA hP
  | disableDrive => exact execRequest_code_keeps hP h fun _ _ hat => k.disableDrive hat hA hP
  | monitorTest => exact execRequest_code_keeps hP h fun _ _ hat => k.monitorTest hat hA hP
  | clearFaults => exact execRequest_code_keeps hP h fun _ _ hat => k.clearFaults hat hA hP
  | clearFlags => exact execRequest_code_keeps hP h fun _ _ hat => k.clearFlags hat hA hP
  | readState => exact execRequest_code_keeps hP h fun _ _ hat => k.readState hat hA hP
  | resetControl => exact execRequest_code_keeps hP h fun _ _ hat => k.resetControl hat hA hP
  | unknownCommand => exact execRequest_keeps hP h fun _ _ hat _ => k.unknown hat hA hP
  | powerOnReset =>
    cases h
    exact k.powerOn hA hP
  | resetLineReset =>
    cases h
    exact k.resetLine hA hP
  | resetEnd straps =>
    simp only [Machine.exec, execResetEnd] at h
    split at h
    · cases h
      exact k.resetEnded straps hA hP
    · cases h; exact hP

/-- Every step keeps it: the command at the front of the queue, or nothing (log entry 2). -/
theorem EventsKeep.step (hA : A s) (hP : P s) (h : step s = .next t) : P t := by
  unfold Machine.step at h
  split at h
  · cases h
    exact hP
  · obtain ⟨hA, hP⟩ := k.dequeued _ hA hP
    exact k.exec hA hP h

end

end Sys2Proof.Machine

/-! The banks (chapter 9): what each event makes of the Table Store, and that every step keeps the banks validated. -/

namespace Sys2Proof.Machine

/-! ### Validation (R155) -/

/-- Validation passes exactly when the check of every word of the six tables does. -/
theorem validate_eq_none_iff (b a : Bank) (gateOpen : Bool) :
    validate b a gateOpen = none ↔
      (∀ o, o < 36 → checkT0 b.t0 o = true) ∧ (∀ o, o < 8 → checkT1 b.t1 a.t1 gateOpen o = true) ∧
        (∀ o, o < 96 → checkT2 b.t2 o = true) ∧ (∀ o, o < 160 → checkT3 b.t3 o = true) ∧
        (∀ o, o < 20 → checkT4 b.t4 o = true) ∧ (∀ o, o < 16 → checkT5 b.t5 o = true) := by
  simp only [validate, Option.orElse_eq_none, Option.map_eq_none_iff, firstBad_eq_none_iff]

/-- A word of T1 that passes with the gate as it is passes with the gate taken CLOSED. -/
theorem checkT1_closed {t a : List Word} {gateOpen : Bool} {o : Nat} (h : checkT1 t a gateOpen o = true) :
    checkT1 t t false o = true := by
  unfold checkT1 at *
  split at h <;> simp_all

/-- A bank that a COMMIT accepts is validated (R155, R156). -/
theorem validated_of_validate {b a : Bank} {gateOpen : Bool} (hwf : b.wf = true)
    (h : validate b a gateOpen = none) : b.validated := by
  refine ⟨hwf, ?_⟩
  rw [validate_eq_none_iff] at h ⊢
  obtain ⟨h0, h1, hrest⟩ := h
  exact ⟨h0, fun o ho => checkT1_closed (h1 o ho), hrest⟩

/-! ### The Table Store through a swap (R157) -/

/-- The Table Store once its pending swap has been made. -/
def Tables.swapped (t : Tables) : Tables := { t with active := t.staged, activeValid := true, commitPending := false }

@[simp] theorem performSwap_tables (s : State) : (performSwap s).tables = s.tables.swapped := by
  simp [performSwap, copyStaged, Tables.swapped]

/-- A pending COMMIT's swap has been made, or nothing has happened to the banks. -/
def SwapTaken (t t' : Tables) : Prop := t' = t ∨ t.commitPending = true ∧ t' = t.swapped

theorem SwapTaken.refl (t : Tables) : SwapTaken t t := .inl rfl

/-- After a swap no COMMIT is pending. -/
theorem SwapTaken.trans {t u v : Tables} (h : SwapTaken t u) (g : SwapTaken u v) : SwapTaken t v := by
  obtain rfl | ⟨hpending, rfl⟩ := h
  · exact g
  · obtain rfl | ⟨hpending', -⟩ := g
    · exact .inr ⟨hpending, rfl⟩
    · cases hpending'

theorem SwapTaken.activeValid {t t' : Tables} (h : SwapTaken t t') (hvalid : t.activeValid = true) :
    t'.activeValid = true := by
  obtain rfl | ⟨-, rfl⟩ := h
  · exact hvalid
  · rfl

theorem completeCommit_tables (s : State) : SwapTaken s.tables (completeCommit s).tables := by
  unfold completeCommit
  split
  · rename_i hpending
    exact .inr ⟨hpending, by simp⟩
  · exact .refl _

theorem reevaluate_tables (o : Bool) (s : State) : SwapTaken s.tables (reevaluate o s).tables := by
  unfold reevaluate
  split
  · exact .refl _
  · split
    · exact .inl (by simp)
    · dsimp only
      split
      · simpa using completeCommit_tables { s with timing := { s.timing with selected := none } }
      · simpa using completeCommit_tables (closeForSilence { s with timing := { s.timing with selected := none } })

/-! ### Marks (R1, R2, R10) -/

@[simp] theorem restartTimer_tables (src : Source) (s : State) : (restartTimer src s).tables = s.tables := rfl

theorem markArrives_tables (src : Source) (s : State) : SwapTaken s.tables (markArrives src s).tables := by
  unfold markArrives
  split
  · exact reevaluate_tables false (restartTimer src s)
  · exact .refl _

@[simp] theorem markArrives_computing (src : Source) (s : State) :
    (markArrives src s).engine.computing = s.engine.computing := by
  unfold markArrives
  split
  · simp only [reevaluate_frame]
    rfl
  · rfl

theorem startCycle_tables (k : Nat) (seq : Word) (n : Count) (s : State) :
    (startCycle k seq n s).tables = (completeCommit s).tables := by
  simp [startCycle]

/-- The cycle that starts computes on the bank then ACTIVE (R10). -/
theorem startCycle_bank (k : Nat) (seq : Word) (n : Count) (s : State) :
    ∃ y, (startCycle k seq n s).engine.computing = some y ∧ y.bank = (startCycle k seq n s).tables.active :=
  ⟨_, rfl, rfl⟩

/-- What a mark's examination does to the banks, and to the cycle in computation. -/
theorem examineMark_tables (p : Port) (seq : Word) (s : State) :
    SwapTaken s.tables (examineMark p seq s).tables ∧
      ((examineMark p seq s).engine.computing = s.engine.computing ∨
        ∃ y, (examineMark p seq s).engine.computing = some y ∧ y.bank = (examineMark p seq s).tables.active) := by
  unfold examineMark
  split
  · exact ⟨.refl _, .inl rfl⟩
  · split
    · exact ⟨.refl _, .inl rfl⟩
    · rename_i k gap _
      refine ⟨?_, .inr (startCycle_bank _ _ _ _)⟩
      rw [serveMark, startCycle_tables]
      simpa using completeCommit_tables _

/-- What a MARK frame does to the banks and to the cycle in computation: ACTIVE is valid where it starts one (R1). -/
theorem readMark_tables (p : Port) (ident : Nat) (ws : List Word) (s : State) :
    SwapTaken s.tables (readMark p ident ws s).tables ∧
      ((readMark p ident ws s).engine.computing = s.engine.computing ∨
        s.tables.activeValid = true ∧
          ∃ y, (readMark p ident ws s).engine.computing = some y ∧ y.bank = (readMark p ident ws s).tables.active) := by
  unfold readMark
  split
  · exact ⟨.refl _, .inl rfl⟩
  · rename_i src hsrc
    have hvalid : s.tables.activeValid = true := by
      by_contra hinvalid
      simp [markSource, hinvalid] at hsrc
    have harrives := markArrives_tables src s
    have hkept : (markArrives src s).engine.computing = s.engine.computing := by simp
    split
    · exact ⟨harrives, .inl hkept⟩
    · split
      · obtain ⟨hswap, hcycle⟩ := examineMark_tables p _ (markArrives src s)
        exact ⟨harrives.trans hswap, hcycle.imp (·.trans hkept) fun hy => ⟨hvalid, hy⟩⟩
      · exact ⟨harrives, .inl hkept⟩

/-! ### The other frames -/

@[simp] theorem countAt_frame (p : Port) (o : Reception) (s : State) :
    (countAt p o s).pending = s.pending ∧ (countAt p o s).resetInProgress = s.resetInProgress ∧
      (countAt p o s).capture = s.capture ∧ (countAt p o s).timing = s.timing ∧
      (countAt p o s).engine = s.engine ∧ (countAt p o s).tables = s.tables ∧ (countAt p o s).drive = s.drive ∧
      (countAt p o s).monitor = s.monitor ∧ (countAt p o s).supply = s.supply ∧ (countAt p o s).gate = s.gate ∧
      (countAt p o s).mgmt = s.mgmt ∧ (countAt p o s).link.nodeAddress = s.link.nodeAddress := by
  simp [countAt]

@[simp] theorem forward_frame (p : Port) (ws : List Word) (s : State) :
    (forward p ws s).pending = s.pending ∧ (forward p ws s).resetInProgress = s.resetInProgress ∧
      (forward p ws s).capture = s.capture ∧ (forward p ws s).timing = s.timing ∧
      (forward p ws s).engine = s.engine ∧ (forward p ws s).tables = s.tables ∧ (forward p ws s).drive = s.drive ∧
      (forward p ws s).monitor = s.monitor ∧ (forward p ws s).supply = s.supply ∧ (forward p ws s).gate = s.gate ∧
      (forward p ws s).mgmt = s.mgmt ∧ (forward p ws s).link.nodeAddress = s.link.nodeAddress := by
  simp [forward]

@[simp] theorem cancelWaiting_frame (r : Request) (s : State) :
    (cancelWaiting r s).pending = s.pending ∧ (cancelWaiting r s).resetInProgress = s.resetInProgress ∧
      (cancelWaiting r s).link = s.link ∧ (cancelWaiting r s).capture = s.capture ∧
      (cancelWaiting r s).timing = s.timing ∧ (cancelWaiting r s).engine.computing = s.engine.computing ∧
      (cancelWaiting r s).engine.programme = s.engine.programme ∧ (cancelWaiting r s).drive = s.drive ∧
      (cancelWaiting r s).supply = s.supply ∧ (cancelWaiting r s).gate = s.gate ∧
      (cancelWaiting r s).mgmt = s.mgmt := by
  unfold cancelWaiting
  split_ifs <;> simp

@[simp] theorem abortRequests_keeps (r : Request) (s : State) :
    (abortRequests r s).pending = s.pending ∧ (abortRequests r s).resetInProgress = s.resetInProgress ∧
      (abortRequests r s).capture = s.capture ∧ (abortRequests r s).timing = s.timing ∧
      (abortRequests r s).engine.computing = s.engine.computing ∧ (abortRequests r s).drive = s.drive ∧
      (abortRequests r s).supply = s.supply ∧ (abortRequests r s).gate = s.gate := by
  unfold abortRequests
  cases s.mgmt.executing <;> simp

@[simp] theorem takeRequestFrame_frame (p : Port) (ws : List Word) (s : State) :
    (takeRequestFrame p ws s).pending = s.pending ∧
      (takeRequestFrame p ws s).resetInProgress = s.resetInProgress ∧
      (takeRequestFrame p ws s).capture = s.capture ∧ (takeRequestFrame p ws s).timing = s.timing ∧
      (takeRequestFrame p ws s).engine.computing = s.engine.computing ∧
      (takeRequestFrame p ws s).drive = s.drive ∧ (takeRequestFrame p ws s).supply = s.supply ∧
      (takeRequestFrame p ws s).gate = s.gate := by
  unfold takeRequestFrame
  split
  · simp
  · dsimp only
    split_ifs <;> simp

@[simp] theorem writeResults_frame (y : Cycle) (s : State) :
    (writeResults y s).pending = s.pending ∧ (writeResults y s).resetInProgress = s.resetInProgress ∧
      (writeResults y s).link = s.link ∧ (writeResults y s).capture = s.capture ∧
      (writeResults y s).timing = s.timing ∧ (writeResults y s).tables = s.tables ∧
      (writeResults y s).drive = s.drive ∧ (writeResults y s).monitor = s.monitor ∧
      (writeResults y s).supply = s.supply ∧ (writeResults y s).gate = s.gate := by
  simp [writeResults]

@[simp] theorem stageDelivery_frame (y : Cycle) (s : State) :
    (stageDelivery y s).pending = s.pending ∧ (stageDelivery y s).resetInProgress = s.resetInProgress ∧
      (stageDelivery y s).capture = s.capture ∧ (stageDelivery y s).timing = s.timing ∧
      (stageDelivery y s).tables = s.tables ∧ (stageDelivery y s).supply = s.supply ∧
      (stageDelivery y s).gate = s.gate ∧ (stageDelivery y s).link.nodeAddress = s.link.nodeAddress ∧
      (stageDelivery y s).mgmt.queue = s.mgmt.queue ∧ (stageDelivery y s).mgmt.captures = s.mgmt.captures := by
  unfold stageDelivery
  split <;> simp

@[simp] theorem finishCycle_computing (y : Cycle) (e : Engine) : (finishCycle y e).computing = none := rfl

@[simp] theorem countTimeout_frame (c : Corner) (s : State) :
    (countTimeout c s).pending = s.pending ∧ (countTimeout c s).resetInProgress = s.resetInProgress ∧
      (countTimeout c s).link = s.link ∧ (countTimeout c s).capture = s.capture ∧
      (countTimeout c s).timing = s.timing ∧ (countTimeout c s).engine = s.engine ∧
      (countTimeout c s).tables = s.tables ∧ (countTimeout c s).monitor = s.monitor ∧
      (countTimeout c s).supply = s.supply ∧ (countTimeout c s).gate = s.gate ∧
      (countTimeout c s).mgmt = s.mgmt ∧ (countTimeout c s).drive.slots = s.drive.slots ∧
      (countTimeout c s).drive.waiting = s.drive.waiting ∧
      (countTimeout c s).drive.staggered = s.drive.staggered := by
  simp [countTimeout]

@[simp] theorem keepMeasurement_frame (c : Corner) (m : Nat) (s : State) :
    (keepMeasurement c m s).pending = s.pending ∧ (keepMeasurement c m s).resetInProgress = s.resetInProgress ∧
      (keepMeasurement c m s).link = s.link ∧ (keepMeasurement c m s).capture = s.capture ∧
      (keepMeasurement c m s).timing = s.timing ∧ (keepMeasurement c m s).engine = s.engine ∧
      (keepMeasurement c m s).tables = s.tables ∧ (keepMeasurement c m s).monitor = s.monitor ∧
      (keepMeasurement c m s).supply = s.supply ∧ (keepMeasurement c m s).gate = s.gate ∧
      (keepMeasurement c m s).mgmt = s.mgmt ∧ (keepMeasurement c m s).drive.slots = s.drive.slots ∧
      (keepMeasurement c m s).drive.waiting = s.drive.waiting ∧
      (keepMeasurement c m s).drive.staggered = s.drive.staggered := by
  simp [keepMeasurement]

@[simp] theorem actOnMeasurement_frame (c : Corner) (m : Nat) (s : State) :
    (actOnMeasurement c m s).pending = s.pending ∧ (actOnMeasurement c m s).resetInProgress = s.resetInProgress ∧
      (actOnMeasurement c m s).capture = s.capture ∧ (actOnMeasurement c m s).timing = s.timing ∧
      (actOnMeasurement c m s).engine = s.engine ∧ (actOnMeasurement c m s).tables = s.tables ∧
      (actOnMeasurement c m s).supply = s.supply ∧ (actOnMeasurement c m s).gate = s.gate ∧
      (actOnMeasurement c m s).link.nodeAddress = s.link.nodeAddress ∧
      (actOnMeasurement c m s).mgmt.queue = s.mgmt.queue ∧
      (actOnMeasurement c m s).mgmt.captures = s.mgmt.captures ∧
      (actOnMeasurement c m s).drive.staggered = s.drive.staggered := by
  unfold actOnMeasurement
  split
  · split <;> simp
  all_goals simp

@[simp] theorem actOnSample_keeps (s : State) :
    (actOnSample s).pending = s.pending ∧ (actOnSample s).resetInProgress = s.resetInProgress ∧
      (actOnSample s).capture = s.capture ∧ (actOnSample s).timing = s.timing ∧
      (actOnSample s).engine = s.engine ∧ (actOnSample s).tables = s.tables ∧
      (actOnSample s).supply.sample = s.supply.sample ∧
      (actOnSample s).link.nodeAddress = s.link.nodeAddress ∧ (actOnSample s).mgmt.queue = s.mgmt.queue ∧
      (actOnSample s).mgmt.captures = s.mgmt.captures := by
  have hpending : (reformDuties s).pending = s.pending := by simp [reformDuties_eq, State.setRecords]
  unfold actOnSample
  dsimp only
  split <;> split <;> simp [reformDuties_eq, State.setRecords]

@[simp] theorem leaveQueue_frame (s : State) (rest : List Request) :
    (leaveQueue s rest).pending = s.pending ∧ (leaveQueue s rest).resetInProgress = s.resetInProgress ∧
      (leaveQueue s rest).link = s.link ∧ (leaveQueue s rest).capture = s.capture ∧
      (leaveQueue s rest).timing = s.timing ∧ (leaveQueue s rest).engine = s.engine ∧
      (leaveQueue s rest).tables = s.tables ∧ (leaveQueue s rest).drive = s.drive ∧
      (leaveQueue s rest).monitor = s.monitor ∧ (leaveQueue s rest).supply = s.supply ∧
      (leaveQueue s rest).gate = s.gate ∧ (leaveQueue s rest).mgmt = { s.mgmt with queue := rest } := by
  simp [leaveQueue]

@[simp] theorem captureCounters_frame (p : Port) (clear : Bool) (s : State) :
    (captureCounters p clear s).pending = s.pending ∧
      (captureCounters p clear s).resetInProgress = s.resetInProgress ∧
      (captureCounters p clear s).capture = s.capture ∧ (captureCounters p clear s).timing = s.timing ∧
      (captureCounters p clear s).engine = s.engine ∧ (captureCounters p clear s).tables = s.tables ∧
      (captureCounters p clear s).drive = s.drive ∧ (captureCounters p clear s).monitor = s.monitor ∧
      (captureCounters p clear s).supply = s.supply ∧ (captureCounters p clear s).gate = s.gate ∧
      (captureCounters p clear s).link.nodeAddress = s.link.nodeAddress ∧
      (captureCounters p clear s).mgmt.executing = s.mgmt.executing ∧
      (captureCounters p clear s).mgmt.queue = s.mgmt.queue ∧
      (captureCounters p clear s).mgmt.flags = s.mgmt.flags := by
  unfold captureCounters
  cases clear <;> simp

/-- READ_STATE answers, on the state as it is or with counters captured (R184, R185). -/
theorem doReadState_answers (r : Request) (s : State) :
    (∃ x ws, doReadState r s = answer r x ws s) ∨
      ∃ p clear ws, doReadState r s = answer r .ok ws (captureCounters p clear s) := by
  unfold doReadState
  split
  · split
    · split
      · exact .inl ⟨_, _, rfl⟩
      · unfold readCounters
        split
        · exact .inr ⟨_, _, _, rfl⟩
        · split <;> exact .inl ⟨_, _, rfl⟩
        · split <;> exact .inl ⟨_, _, rfl⟩
        · exact .inl ⟨_, _, rfl⟩
    · split <;> exact .inl ⟨_, _, rfl⟩
  · exact .inl ⟨_, _, rfl⟩

@[simp] theorem doReadState_frame (r : Request) (s : State) :
    (doReadState r s).pending = s.pending ∧ (doReadState r s).resetInProgress = s.resetInProgress ∧
      (doReadState r s).capture = s.capture ∧ (doReadState r s).timing = s.timing ∧
      (doReadState r s).engine = s.engine ∧ (doReadState r s).tables = s.tables ∧
      (doReadState r s).drive = s.drive ∧ (doReadState r s).monitor = s.monitor ∧
      (doReadState r s).supply = s.supply ∧ (doReadState r s).gate = s.gate ∧
      (doReadState r s).mgmt.executing = s.mgmt.executing ∧ (doReadState r s).mgmt.queue = s.mgmt.queue := by
  obtain ⟨x, ws, h⟩ | ⟨p, clear, ws, h⟩ := doReadState_answers r s
  · simp [h]
  · simp [h]

/-! ### Requests on the banks -/

/-- Writing a span keeps a table's length (R151). -/
theorem length_writeSpan {t ws : List Word} {o : Nat} (h : o + ws.length ≤ t.length) :
    (writeSpan t o ws).length = t.length := by
  simp only [writeSpan, List.length_append, List.length_take, List.length_drop]
  omega

/-- A table's words replaced by as many keep the bank's lengths. -/
theorem wf_setTable {b : Bank} {n : Nat} {t u : List Word} (hwf : b.wf = true) (ht : b.table n = some t)
    (hlength : u.length = t.length) : (b.setTable n u).wf = true := by
  unfold Bank.table at ht
  split at ht
  case h_7 => cases ht
  all_goals
    cases ht
    simpa [Bank.setTable, Bank.wf, hlength] using hwf

/-- LOAD answers, on the state as it is or with STAGED written (R151). -/
theorem doLoad_answers (r : Request) (s : State) :
    ∃ x b, doLoad r s = answer r x [] (writeStaged b s) ∧ (s.tables.staged.wf = true → b.wf = true) := by
  unfold doLoad
  split
  · exact ⟨.invalid, s.tables.staged, by simp [invalid, writeStaged], id⟩
  · exact ⟨.invalid, s.tables.staged, by simp [invalid, writeStaged], id⟩
  · split
    · exact ⟨.invalid, s.tables.staged, by simp [invalid, writeStaged], id⟩
    · rename_i t ht
      split
      · rename_i hspan
        exact ⟨_, _, rfl, fun hwf => wf_setTable hwf ht (length_writeSpan hspan)⟩
      · exact ⟨.invalid, s.tables.staged, by simp [invalid, writeStaged], id⟩

@[simp] theorem writeStaged_frame (b : Bank) (s : State) :
    (writeStaged b s).pending = s.pending ∧ (writeStaged b s).resetInProgress = s.resetInProgress ∧
      (writeStaged b s).link = s.link ∧ (writeStaged b s).capture = s.capture ∧
      (writeStaged b s).timing = s.timing ∧ (writeStaged b s).engine = s.engine ∧
      (writeStaged b s).drive = s.drive ∧ (writeStaged b s).monitor = s.monitor ∧
      (writeStaged b s).supply = s.supply ∧ (writeStaged b s).gate = s.gate ∧ (writeStaged b s).mgmt = s.mgmt ∧
      (writeStaged b s).tables.active = s.tables.active ∧
      (writeStaged b s).tables.activeValid = s.tables.activeValid ∧
      (writeStaged b s).tables.commitPending = s.tables.commitPending := by
  unfold writeStaged
  split <;> simp

@[simp] theorem doLoad_frame (r : Request) (s : State) :
    (doLoad r s).pending = s.pending ∧ (doLoad r s).resetInProgress = s.resetInProgress ∧
      (doLoad r s).capture = s.capture ∧ (doLoad r s).timing = s.timing ∧ (doLoad r s).engine = s.engine ∧
      (doLoad r s).drive = s.drive ∧ (doLoad r s).monitor = s.monitor ∧ (doLoad r s).supply = s.supply ∧
      (doLoad r s).gate = s.gate ∧ (doLoad r s).mgmt.executing = s.mgmt.executing ∧
      (doLoad r s).mgmt.queue = s.mgmt.queue ∧ (doLoad r s).mgmt.captures = s.mgmt.captures ∧
      (doLoad r s).tables.active = s.tables.active ∧ (doLoad r s).tables.activeValid = s.tables.activeValid ∧
      (doLoad r s).tables.commitPending = s.tables.commitPending := by
  obtain ⟨x, b, h, -⟩ := doLoad_answers r s
  simp [h]

/-- READ_TABLE only answers (R152). -/
theorem doReadTable_answers (r : Request) (s : State) : ∃ x ws, doReadTable r s = answer r x ws s := by
  unfold doReadTable
  split
  · split
    · exact ⟨_, _, rfl⟩
    · split <;> exact ⟨_, _, rfl⟩
  · exact ⟨_, _, rfl⟩

@[simp] theorem doReadTable_frame (r : Request) (s : State) :
    (doReadTable r s).pending = s.pending ∧ (doReadTable r s).resetInProgress = s.resetInProgress ∧
      (doReadTable r s).capture = s.capture ∧ (doReadTable r s).timing = s.timing ∧
      (doReadTable r s).engine = s.engine ∧ (doReadTable r s).tables = s.tables ∧
      (doReadTable r s).drive = s.drive ∧ (doReadTable r s).monitor = s.monitor ∧
      (doReadTable r s).supply = s.supply ∧ (doReadTable r s).gate = s.gate ∧
      (doReadTable r s).mgmt.executing = s.mgmt.executing ∧ (doReadTable r s).mgmt.queue = s.mgmt.queue ∧
      (doReadTable r s).mgmt.captures = s.mgmt.captures := by
  obtain ⟨x, ws, h⟩ := doReadTable_answers r s
  simp [h]

/-- CLEAR_FLAGS answers, its flags cleared (R187). -/
theorem doClearFlags_answers (r : Request) (s : State) :
    ∃ x ws w, doClearFlags r s = answer r x ws (clearFlags w s) := by
  unfold doClearFlags
  split
  · have hnone : clearFlags 0 s = s := by
      have hall : s.mgmt.flags &&& BitVec.allOnes 16 = s.mgmt.flags := BitVec.and_allOnes
      rw [clearFlags, show ~~~(0 : Word) = BitVec.allOnes 16 from rfl, hall]
    exact ⟨.invalid, [], 0, by rw [hnone]; rfl⟩
  · exact ⟨_, _, _, rfl⟩

@[simp] theorem doClearFlags_frame (r : Request) (s : State) :
    (doClearFlags r s).pending = s.pending ∧ (doClearFlags r s).resetInProgress = s.resetInProgress ∧
      (doClearFlags r s).capture = s.capture ∧ (doClearFlags r s).timing = s.timing ∧
      (doClearFlags r s).engine = s.engine ∧ (doClearFlags r s).tables = s.tables ∧
      (doClearFlags r s).drive = s.drive ∧ (doClearFlags r s).monitor = s.monitor ∧
      (doClearFlags r s).supply = s.supply ∧ (doClearFlags r s).gate = s.gate ∧
      (doClearFlags r s).mgmt.executing = s.mgmt.executing ∧ (doClearFlags r s).mgmt.queue = s.mgmt.queue ∧
      (doClearFlags r s).mgmt.captures = s.mgmt.captures := by
  obtain ⟨x, ws, w, h⟩ := doClearFlags_answers r s
  simp [h]

/-- CLEAR_FAULTS answers, the named corners cleared (R135). -/
theorem doClearFaults_answers (r : Request) (s : State) :
    ∃ x w, doClearFaults r s = answer r x [] (clearNamed w s) := by
  unfold doClearFaults
  split
  · exact ⟨.invalid, 0, by simp [invalid, clearNamed, maskCorners]⟩
  · exact ⟨_, _, rfl⟩

/-- SET_PROGRAMME answers, with a programme made current or not, or stays in execution (R53). -/
theorem doSetProgramme_cases (r : Request) (s : State) :
    (∃ x g, doSetProgramme r s = answer r x [] { s with engine := { s.engine with programme := g } }) ∨
      ∃ g, doSetProgramme r s =
        keepExecuting r { s with engine := { s.engine with pendingProgramme := some g } } := by
  unfold doSetProgramme
  split
  · exact .inl ⟨_, s.engine.programme, rfl⟩
  · split
    · exact .inl ⟨_, s.engine.programme, rfl⟩
    · split_ifs
      · exact .inl ⟨_, s.engine.programme, rfl⟩
      · exact .inl ⟨_, _, rfl⟩
      · exact .inr ⟨_, rfl⟩

/-- ENABLE_DRIVE answers, with the gate opened where all of R144's conditions hold. -/
theorem doEnableDrive_cases (r : Request) (s : State) :
    (∃ x ws, doEnableDrive r s = answer r x ws s) ∨
      s.gate.isOpen = false ∧ s.tables.activeValid = true ∧ s.timing.selected ≠ none ∧
        s.tables.active.vLow ≤ s.supply.sample ∧ doEnableDrive r s = answer r .ok [] (openGate s) := by
  unfold doEnableDrive
  split_ifs with hopen hvalid hsource hlow
  · exact .inl ⟨_, _, rfl⟩
  · exact .inl ⟨_, _, rfl⟩
  · exact .inl ⟨_, _, rfl⟩
  · exact .inl ⟨_, _, rfl⟩
  · exact .inr ⟨by simpa using hopen, by simpa using hvalid, hsource, Nat.not_lt.mp hlow, rfl⟩

/-- MONITOR_TEST answers, or starts a test at a corner in a settled HOLD and stays in execution (R136). -/
theorem doMonitorTest_cases (r : Request) (s : State) :
    (∃ x ws, doMonitorTest r s = answer r x ws s) ∨
      ∃ c d, (s.corner c).state = .hold ∧ (s.monitorOf c).settle = 0 ∧
        doMonitorTest r s = keepExecuting r
          (s.setMonitor c { s.monitorOf c with deviation := 0, test := some { direction := d, judged := 0 } }) := by
  unfold doMonitorTest
  split
  · split
    · unfold startTest
      split_ifs with hhold hsettled
      · exact .inl ⟨_, _, rfl⟩
      · exact .inl ⟨_, _, rfl⟩
      · exact .inr ⟨_, _, not_not.mp hhold, Nat.eq_zero_of_not_pos hsettled, rfl⟩
    · exact .inl ⟨_, _, rfl⟩
  · exact .inl ⟨_, _, rfl⟩

/-- COMMIT answers REJECTED, swaps at once, or waits (R155, R158). -/
theorem doCommit_cases (r : Request) (s : State) :
    (∃ x ws, doCommit r s = answer r x ws s) ∨
      validate s.tables.staged s.tables.active s.gate.isOpen = none ∧
        (s.timing.selected = none ∧ doCommit r s = answer r .ok [] (performSwap s) ∨
          s.timing.selected ≠ none ∧
            doCommit r s = keepExecuting r { s with tables := { s.tables with commitPending := true } }) := by
  unfold doCommit
  split
  · exact .inl ⟨_, _, rfl⟩
  · rename_i hpasses
    refine .inr ⟨hpasses, ?_⟩
    split
    · rename_i hnone
      exact .inl ⟨hnone, rfl⟩
    · rename_i hsource
      exact .inr ⟨hsource, rfl⟩

/-- RESET_CONTROL answers, with the control chain restarted where the gate is CLOSED (R188). -/
theorem doResetControl_cases (r : Request) (s : State) :
    (∃ x ws, doResetControl r s = answer r x ws s) ∨
      s.gate.isOpen = false ∧ doResetControl r s = answer r .ok [] (Machine.resetControl s) := by
  unfold doResetControl
  split
  · exact .inl ⟨_, _, rfl⟩
  · rename_i hclosed
    exact .inr ⟨by simpa using hclosed, rfl⟩

@[simp] theorem doNop_eq (r : Request) (s : State) : doNop r s = answer r .ok r.operands s := rfl

@[simp] theorem invalid_eq (r : Request) (s : State) : invalid r s = answer r .invalid [] s := rfl

@[simp] theorem doDiscard_eq (r : Request) (s : State) :
    doDiscard r s = answer r .ok [] (writeStaged s.tables.active s) := rfl

@[simp] theorem doDisableDrive_eq (r : Request) (s : State) :
    doDisableDrive r s = answer r .ok [] (closeGate .command s) := rfl

/-! ### The laws of the banks -/

/-- The clauses of `TablesInv` about the Table Store alone. -/
def Tables.Lawful (t : Tables) : Prop :=
  t.active.wf = true ∧ t.staged.wf = true ∧ (t.activeValid = true → t.active.validated) ∧
    (t.commitPending = true → t.staged.validated)

theorem tablesInv_iff (s : State) :
    TablesInv s ↔ s.tables.Lawful ∧ ∀ y, s.engine.computing = some y → y.bank.validated := by
  simp only [TablesInv, Tables.Lawful, and_assoc]

theorem TablesInv.of_agree {s t : State} (h : TablesInv s) (htables : t.tables = s.tables := by simp)
    (hcomputing : t.engine.computing = s.engine.computing := by simp) : TablesInv t := by
  simpa only [TablesInv, htables, hcomputing] using h

/-- Where a cycle ends the banks' laws stay too. -/
theorem TablesInv.of_idle {s t : State} (h : TablesInv s) (htables : t.tables = s.tables)
    (hidle : t.engine.computing = none) : TablesInv t := by
  rw [tablesInv_iff] at h ⊢
  rw [htables, hidle]
  exact ⟨h.1, by simp⟩

theorem Tables.Lawful.swapTaken {t t' : Tables} (h : t.Lawful) (hswap : SwapTaken t t') : t'.Lawful := by
  obtain rfl | ⟨hpending, rfl⟩ := hswap
  · exact h
  · obtain ⟨-, hstaged, -, hcommit⟩ := h
    exact ⟨hstaged, hstaged, fun _ => hcommit hpending, by simp [Tables.swapped]⟩

theorem TablesInv.swapTaken {s t : State} (h : TablesInv s) (hswap : SwapTaken s.tables t.tables)
    (hcomputing : t.engine.computing = s.engine.computing) : TablesInv t := by
  rw [tablesInv_iff] at h ⊢
  obtain ⟨hlaw, hcycle⟩ := h
  exact ⟨hlaw.swapTaken hswap, fun y hy => hcycle y (hcomputing ▸ hy)⟩

/-- A bank that is validated becomes ACTIVE. -/
theorem TablesInv.swapped {s t : State} (h : TablesInv s) (hstaged : s.tables.staged.validated)
    (htables : t.tables = s.tables.swapped) (hcomputing : t.engine.computing = s.engine.computing) : TablesInv t := by
  rw [tablesInv_iff] at h ⊢
  obtain ⟨⟨-, hwf, -, -⟩, hcycle⟩ := h
  rw [htables, hcomputing]
  exact ⟨⟨hwf, hwf, fun _ => hstaged, by simp [Tables.swapped]⟩, hcycle⟩

theorem TablesInv.readMark {s : State} (h : TablesInv s) (p : Port) (ident : Nat) (ws : List Word) :
    TablesInv (readMark p ident ws s) := by
  obtain ⟨hswap, hcycle | ⟨hvalid, y, hy, hbank⟩⟩ := readMark_tables p ident ws s
  · exact h.swapTaken hswap hcycle
  · rw [tablesInv_iff] at h ⊢
    have hlaw := h.1.swapTaken hswap
    refine ⟨hlaw, fun z hz => ?_⟩
    obtain ⟨-, -, hactive, -⟩ := hlaw
    cases hy.symm.trans hz
    rw [hbank]
    exact hactive (hswap.activeValid hvalid)

theorem TablesInv.handOver {s : State} (h : TablesInv s) (p : Port) (ws : List Word) :
    TablesInv (handOver p ws s) := by
  unfold Machine.handOver
  dsimp only
  split_ifs
  · exact h.of_agree
  · exact h.readMark p _ _
  · exact h

theorem TablesInv.forward {s : State} (h : TablesInv s) (p : Port) (ws : List Word) : TablesInv (forward p ws s) :=
  h.of_agree

/-- STAGED takes words, unless it is frozen (R154). -/
theorem TablesInv.writeStaged {s : State} (h : TablesInv s) {b : Bank} (hwf : b.wf = true) :
    TablesInv (writeStaged b s) := by
  unfold Machine.writeStaged
  split
  · exact h
  · rename_i hpending
    obtain ⟨hactive, -, hvalid, -, hcycle⟩ := h
    exact ⟨hactive, hwf, hvalid, fun hp => absurd hp hpending, hcycle⟩

/-- Undoing a waiting state clears commit-pending at most. -/
theorem TablesInv.cancelWaiting {s : State} (h : TablesInv s) (r : Request) : TablesInv (cancelWaiting r s) := by
  unfold Machine.cancelWaiting
  split_ifs
  · obtain ⟨hactive, hstaged, hvalid, -, hcycle⟩ := h
    exact ⟨hactive, hstaged, hvalid, by simp, hcycle⟩
  · exact h
  · exact h
  · exact h

theorem TablesInv.answer {s : State} (h : TablesInv s) (r : Request) (x : Result) (ws : List Word) :
    TablesInv (answer r x ws s) :=
  h.of_agree

theorem TablesInv.takeRequestFrame {s : State} (h : TablesInv s) (p : Port) (ws : List Word) :
    TablesInv (takeRequestFrame p ws s) := by
  unfold Machine.takeRequestFrame
  split
  · exact h
  · dsimp only
    split_ifs
    · unfold abortRequests
      cases s.mgmt.executing with
      | none => exact h.of_agree
      | some x => exact (h.cancelWaiting x).of_agree
    · exact h
    · exact h.of_agree

theorem TablesInv.receive {s : State} (h : TablesInv s) (p : Port) (ws : List Word) (o : Bool) (x : Reception) :
    TablesInv (receive p ws o s x) := by
  cases x with
  | check => exact h
  | format => exact h
  | consumed => exact h.takeRequestFrame p _
  | full => exact TablesInv.handOver (s := setFlag .fullDrops s) h p ws
  | accepted =>
    cases o with
    | true => exact (h.handOver p ws).forward p ws
    | false => exact (h.forward p ws).handOver p ws

/-! ### Every event keeps the banks' laws -/

theorem wf_zero : Bank.zero.wf = true := by decide

/-- The Table Store after a reset that leaves no COMMIT pending, in a state with no cycle. -/
theorem TablesInv.of_reset {s t : State} (h : TablesInv s)
    (htables : t.tables = Tables.powerOn ∨ t.tables = { s.tables with commitPending := false })
    (hidle : t.engine.computing = none) : TablesInv t := by
  rw [tablesInv_iff] at h ⊢
  obtain ⟨⟨hactive, hstaged, hvalid, -⟩, -⟩ := h
  refine ⟨?_, by simp [hidle]⟩
  rcases htables with htables | htables
  · rw [htables]
    exact ⟨wf_zero, wf_zero, by simp [Tables.powerOn], by simp [Tables.powerOn]⟩
  · rw [htables]
    exact ⟨hactive, hstaged, hvalid, by simp⟩

/-- A COMMIT whose bank passes makes its swap or waits for it. -/
theorem TablesInv.of_commit {s : State} (h : TablesInv s) (r : Request) : TablesInv (doCommit r s) := by
  obtain ⟨x, ws, heq⟩ | ⟨hpasses, hcases⟩ := doCommit_cases r s
  · exact heq ▸ h.answer _ _ _
  · obtain ⟨hactive, hwf, hvalid, -, hcycle⟩ := id h
    have hstaged := validated_of_validate hwf hpasses
    obtain ⟨-, heq⟩ | ⟨-, heq⟩ := hcases
    · exact heq ▸ (h.swapped hstaged (performSwap_tables s) (by simp)).answer _ _ _
    · exact heq ▸ ⟨hactive, hwf, hvalid, fun _ => hstaged, hcycle⟩

theorem TablesInv.of_load {s : State} (h : TablesInv s) (r : Request) : TablesInv (doLoad r s) := by
  obtain ⟨x, b, heq, hwf⟩ := doLoad_answers r s
  obtain ⟨-, hstaged, -⟩ := id h
  exact heq ▸ (h.writeStaged (hwf hstaged)).answer _ _ _

theorem TablesInv.of_discard {s : State} (h : TablesInv s) (r : Request) : TablesInv (doDiscard r s) := by
  obtain ⟨hactive, -⟩ := id h
  exact (h.writeStaged hactive).answer _ _ _

theorem TablesInv.of_setProgramme {s : State} (h : TablesInv s) (r : Request) : TablesInv (doSetProgramme r s) := by
  obtain ⟨x, g, heq⟩ | ⟨g, heq⟩ := doSetProgramme_cases r s <;> rw [heq] <;> exact h.of_agree

theorem TablesInv.of_enableDrive {s : State} (h : TablesInv s) (r : Request) : TablesInv (doEnableDrive r s) := by
  obtain ⟨x, ws, heq⟩ | ⟨-, -, -, -, heq⟩ := doEnableDrive_cases r s <;> rw [heq] <;> exact h.of_agree

theorem TablesInv.of_monitorTest {s : State} (h : TablesInv s) (r : Request) : TablesInv (doMonitorTest r s) := by
  obtain ⟨x, ws, heq⟩ | ⟨c, d, -, -, heq⟩ := doMonitorTest_cases r s <;> rw [heq] <;> exact h.of_agree

theorem TablesInv.of_clearFaults {s : State} (h : TablesInv s) (r : Request) : TablesInv (doClearFaults r s) := by
  obtain ⟨x, w, heq⟩ := doClearFaults_answers r s
  rw [heq]
  exact h.of_agree

theorem TablesInv.of_resetControl {s : State} (h : TablesInv s) (r : Request) : TablesInv (doResetControl r s) := by
  obtain ⟨x, ws, heq⟩ | ⟨-, heq⟩ := doResetControl_cases r s
  · exact heq ▸ h.answer _ _ _
  · exact h.of_idle (by simp [heq, resetControl]) (by simp [heq, resetControl, Engine.reset])

theorem TablesInv.leaveQueue {s : State} (h : TablesInv s) (rest : List Request) : TablesInv (leaveQueue s rest) :=
  h.of_agree

/-- Every event keeps the banks' laws: words reach STAGED alone, and ACTIVE takes a bank that has passed. -/
theorem tablesInv_kept : EventsKeep (fun _ => True) TablesInv where
  dequeued _ _ h := ⟨trivial, h⟩
  received p ws _ _ o _ _ h := h.of_agree.receive p ws o _
  transmitted _ _ h := h.of_agree
  silenced o _ _ h := h.swapTaken (reevaluate_tables o (State.setSources _ _)) (by simp)
  completed _ _ h := h.of_idle (by simp) (by simp)
  staggered _ _ h := h.of_agree
  boostExpired _ _ h := h.of_agree
  measured _ _ _ _ h := h.of_agree
  sampled _ _ h := h.of_agree (by simp [keepSample]) (by simp [keepSample])
  nop _ _ h := h.of_agree
  load _ _ h := (h.leaveQueue _).of_load _
  readTable _ _ h := h.of_agree
  commit _ _ h := (h.leaveQueue _).of_commit _
  discard _ _ h := (h.leaveQueue _).of_discard _
  setProgramme _ _ h := (h.leaveQueue _).of_setProgramme _
  enableDrive _ _ h := (h.leaveQueue _).of_enableDrive _
  disableDrive _ _ h := h.of_agree
  monitorTest _ _ h := (h.leaveQueue _).of_monitorTest _
  clearFaults _ _ h := (h.leaveQueue _).of_clearFaults _
  clearFlags _ _ h := h.of_agree
  readState _ _ h := h.of_agree
  resetControl _ _ h := (h.leaveQueue _).of_resetControl _
  unknown _ _ h := h.of_agree
  powerOn _ h := h.of_reset (.inl rfl) rfl
  resetLine _ h := h.of_reset (.inr rfl) rfl
  resetEnded _ _ h := h.of_agree rfl rfl

/-- Settles O53: by cases over the events. -/
theorem stepsKeepTheBanksValidated : Obligations.StepsKeepTheBanksValidated :=
  fun _ _ h hstep => tablesInv_kept.step trivial h hstep

end Sys2Proof.Machine

/-! The law of the OPEN gate (chapter 8): what a swap and a change of source make of the gate, and that every step keeps
the law. -/

namespace Sys2Proof.Machine

/-! ### What opens a gate -/

theorem reselect_gate {s : State} (h : (reselect s).gate.isOpen = true) :
    s.gate.isOpen = true ∧ (s.timing.selected ≠ none → (reselect s).timing.selected ≠ none) := by
  by_cases hsame : selectionOf s.timing.sources = s.timing.selected
  · simp only [reselect, hsame, if_true] at h ⊢
    exact ⟨h, id⟩
  · cases hsource : selectionOf s.timing.sources with
    | some src =>
      have heq : reselect s = selectSource src s := by
        unfold reselect
        rw [if_neg hsame, hsource]
      rw [heq] at h ⊢
      exact ⟨by simpa using h, fun _ => by simp [selectSource]⟩
    | none =>
      have heq : reselect s = loseSource s := by
        unfold reselect
        rw [if_neg hsame, hsource]
      simp [heq, loseSource, closeForSilence] at h

@[simp] theorem swapTiming_gate_source (o : Tables) (s : State) :
    (swapTiming o s).gate.isOpen = true →
      s.gate.isOpen = true ∧ (s.timing.selected ≠ none → (swapTiming o s).timing.selected ≠ none) :=
  fun h => reselect_gate h

/-- Judging a sample leaves the gate OPEN only at or above V_cut (R141). -/
theorem judgeSupply_gate {s : State} (h : (judgeSupply s).gate.isOpen = true) :
    s.gate.isOpen = true ∧ s.tables.active.vCut ≤ s.supply.sample := by
  unfold judgeSupply judgeCut at h
  split at h
  · simp at h
  · rename_i hcut
    exact ⟨by simpa using h, by simpa using hcut⟩

theorem swapSupply_gate {o : Tables} {s : State} (h : (swapSupply o s).gate.isOpen = true) :
    s.gate.isOpen = true ∧ (o.active.vCut ≤ s.supply.sample → s.tables.active.vCut ≤ s.supply.sample) := by
  unfold swapSupply at h
  split at h
  · rename_i hsame
    exact ⟨h, fun hcut => hsame.2 ▸ hcut⟩
  · obtain ⟨hopen, hcut⟩ := judgeSupply_gate h
    exact ⟨hopen, fun _ => hcut⟩

@[simp] theorem swapSupply_timing (o : Tables) (s : State) : (swapSupply o s).timing = s.timing := by simp

/-- A swap leaves a gate OPEN only with a source selected and the sample at or above the new V_cut (R4, R142). -/
theorem performSwap_gate {s : State} (h : (performSwap s).gate.isOpen = true) :
    s.gate.isOpen = true ∧ (s.timing.selected ≠ none → (performSwap s).timing.selected ≠ none) ∧
      (s.tables.active.vCut ≤ s.supply.sample →
        (performSwap s).tables.active.vCut ≤ (performSwap s).supply.sample) := by
  rw [performSwap_tables]
  unfold performSwap at *
  simp only [swapMonitor_frame] at h ⊢
  obtain ⟨hopen, hcut⟩ := swapSupply_gate h
  simp only [swapDrive_frame, swapPreview_frame] at hopen
  obtain ⟨hopen, hsource⟩ := swapTiming_gate_source _ _ hopen
  simp only [swapCapture_frame, copyStaged_frame] at hopen hsource
  refine ⟨hopen, by simpa using hsource, ?_⟩
  simpa [copyStaged, Tables.swapped] using hcut

theorem completeCommit_gate {s : State} (h : (completeCommit s).gate.isOpen = true) : s.gate.isOpen = true := by
  unfold completeCommit at h
  split at h
  · exact (performSwap_gate (by simpa using h)).1
  · exact h

theorem closeForSilence_closed (s : State) : (closeForSilence s).gate.isOpen = false := by simp [closeForSilence]

/-- A supply measurement opens no gate. -/
theorem actOnSample_open {s : State} (h : (actOnSample s).gate.isOpen = true) : s.gate.isOpen = true := by
  unfold actOnSample at h
  dsimp only at h
  cases hvalid : s.tables.activeValid with
  | false =>
    simp only [hvalid, Bool.false_eq_true, if_false] at h
    split at h
    · simpa using h
    · exact h
  | true =>
    simp only [hvalid, if_true] at h
    split at h
    · rename_i hopen
      exact (judgeSupply_gate hopen).1
    · exact (judgeSupply_gate h).1

/-! ### The law of the gate (R143) -/

/-- The clause of `GateInv` beside that of the banks. -/
def GateLaw (s : State) : Prop :=
  s.gate.isOpen = true →
    s.tables.activeValid = true ∧ s.timing.selected ≠ none ∧ s.tables.active.vCut ≤ s.supply.sample

section
variable {s t : State}

theorem GateLaw.of_closed (h : t.gate.isOpen = false) : GateLaw t := fun hopen => by simp [h] at hopen

theorem GateLaw.of_agree (h : GateLaw s) (hgate : t.gate = s.gate := by simp)
    (htables : t.tables = s.tables := by simp) (hselected : t.timing.selected = s.timing.selected := by simp)
    (hsample : t.supply.sample = s.supply.sample := by simp) : GateLaw t := by
  simpa only [GateLaw, hgate, htables, hselected, hsample] using h

theorem GateLaw.performSwap (h : GateLaw s) : GateLaw (performSwap s) := fun hopen => by
  obtain ⟨hopen, hsource, hcut⟩ := performSwap_gate hopen
  obtain ⟨-, hsource', hcut'⟩ := h hopen
  exact ⟨by simp [Tables.swapped], hsource hsource', hcut hcut'⟩

theorem GateLaw.completeCommit (h : GateLaw s) : GateLaw (completeCommit s) := by
  unfold Machine.completeCommit
  split
  · exact h.performSwap.of_agree
  · exact h

/-- With no source left the gate is CLOSED, whichever close request comes first (R7, log entry 8). -/
theorem GateLaw.reevaluate (h : GateLaw s) (o : Bool) : GateLaw (reevaluate o s) := by
  unfold Machine.reevaluate
  split
  · exact h
  · rename_i hchanged
    split
    · rename_i src hsrc
      intro hopen
      obtain ⟨hvalid, -, hcut⟩ := h (by simpa using hopen)
      exact ⟨by simpa using hvalid, by simp [selectSource], by simpa using hcut⟩
    · refine GateLaw.of_closed ?_
      cases o with
      | true => simp [closeForSilence]
      | false =>
        refine Bool.eq_false_iff.mpr fun hopen => ?_
        have hclosed := completeCommit_gate (by simpa using hopen)
        simp [closeForSilence] at hclosed

theorem GateLaw.markArrives (h : GateLaw s) (src : Source) : GateLaw (markArrives src s) := by
  have hrestart : GateLaw (restartTimer src s) := h
  unfold Machine.markArrives
  split
  · exact hrestart.reevaluate false
  · exact hrestart

theorem startCycle_keeps (k : Nat) (seq : Word) (n : Count) (s : State) :
    (startCycle k seq n s).gate = (completeCommit s).gate ∧
      (startCycle k seq n s).supply = (completeCommit s).supply ∧
      (startCycle k seq n s).drive = (completeCommit s).drive ∧
      (startCycle k seq n s).monitor = (completeCommit s).monitor ∧
      (startCycle k seq n s).timing.selected = (completeCommit s).timing.selected ∧
      (startCycle k seq n s).timing.sources = (completeCommit s).timing.sources := by
  simp [startCycle]

theorem GateLaw.startCycle (h : GateLaw s) (k : Nat) (seq : Word) (n : Count) : GateLaw (startCycle k seq n s) := by
  obtain ⟨hgate, hsupply, -, -, hselected, -⟩ := startCycle_keeps k seq n s
  simpa only [GateLaw, hgate, startCycle_tables, hsupply, hselected] using h.completeCommit

theorem GateLaw.examineMark (h : GateLaw s) (p : Port) (seq : Word) : GateLaw (examineMark p seq s) := by
  unfold Machine.examineMark
  split
  · exact h
  · split
    · exact h
    · rename_i k gap _
      unfold serveMark
      exact GateLaw.startCycle h.of_agree _ _ _

theorem GateLaw.readMark (h : GateLaw s) (p : Port) (ident : Nat) (ws : List Word) :
    GateLaw (readMark p ident ws s) := by
  unfold Machine.readMark
  split
  · exact h
  · split
    · exact h.markArrives _
    · split
      · exact (h.markArrives _).examineMark p _
      · exact h.markArrives _

theorem GateLaw.handOver (h : GateLaw s) (p : Port) (ws : List Word) : GateLaw (handOver p ws s) := by
  unfold Machine.handOver
  dsimp only
  split_ifs
  · exact h.of_agree
  · exact h.readMark p _ _
  · exact h

theorem takeRequestFrame_active (p : Port) (ws : List Word) (s : State) :
    (takeRequestFrame p ws s).tables.active = s.tables.active ∧
      (takeRequestFrame p ws s).tables.activeValid = s.tables.activeValid ∧
      (takeRequestFrame p ws s).tables.staged = s.tables.staged := by
  unfold takeRequestFrame
  split
  · simp
  · dsimp only
    split_ifs
    · unfold abortRequests
      cases s.mgmt.executing with
      | none => simp
      | some x =>
        simp only [answer_frame, cancelWaiting]
        split_ifs <;> simp
    · simp
    · simp

theorem GateLaw.receive (h : GateLaw s) (p : Port) (ws : List Word) (o : Bool) (x : Reception) :
    GateLaw (receive p ws o s x) := by
  have hforward {s : State} (h : GateLaw s) : GateLaw (forward p ws s) :=
    h.of_agree
  cases x with
  | check => exact h
  | format => exact h
  | consumed =>
    obtain ⟨hactive, hvalid, -⟩ := takeRequestFrame_active p (framePayload ws) s
    simpa only [GateLaw, Machine.receive, takeRequestFrame_frame, hactive, hvalid] using h
  | full => exact GateLaw.handOver (s := setFlag .fullDrops s) h p ws
  | accepted =>
    cases o with
    | true => exact hforward (h.handOver p ws)
    | false => exact (hforward h).handOver p ws

/-- A sample below V_cut closes an OPEN gate, as ACTIVE is then valid (R141). -/
theorem GateLaw.sampled (h : GateLaw s) (v : Nat) : GateLaw (actOnSample (keepSample v s)) := fun hopen => by
  have hbefore : (keepSample v s).gate.isOpen = true := actOnSample_open hopen
  obtain ⟨hvalid, hsource, -⟩ := h hbefore
  have hkept : (keepSample v s).tables.activeValid = true := hvalid
  rw [actOnSample_gate hkept] at hopen
  have hcut : ¬ v < s.tables.active.vCut := fun hcut => by
    rw [if_pos ⟨hcut, hbefore⟩] at hopen
    cases hopen
  simpa [keepSample, hvalid, hsource] using hcut

/-- A validated bank has V_cut below V_low (R150, R156). -/
theorem vCut_le_vLow {b : Bank} (h : b.validated) : b.vCut ≤ b.vLow := by
  obtain ⟨-, hpasses⟩ := h
  rw [validate_eq_none_iff] at hpasses
  obtain ⟨-, -, -, -, ht4, -⟩ := hpasses
  have h18 := ht4 18 (by decide)
  simp only [checkT4, Bool.and_eq_true, decide_eq_true_eq] at h18
  exact (Nat.le_add_right _ _).trans h18.2

end

/-- ENABLE_DRIVE opens the gate at or above V_low, so above V_cut (R144, R150). -/
theorem GateLaw.of_enableDrive {s : State} (hbanks : TablesInv s) (h : GateLaw s) (r : Request) :
    GateLaw (doEnableDrive r s) := by
  obtain ⟨-, -, hactive, -⟩ := hbanks
  obtain ⟨x, ws, heq⟩ | ⟨-, hvalid, hsource, hlow, heq⟩ := doEnableDrive_cases r s
  · rw [heq]
    exact h.of_agree
  · intro _
    have hcut := vCut_le_vLow (hactive hvalid)
    simpa [heq, hvalid, hsource] using hcut.trans hlow

theorem GateLaw.of_commit {s : State} (h : GateLaw s) (r : Request) : GateLaw (doCommit r s) := by
  obtain ⟨x, ws, heq⟩ | ⟨-, ⟨-, heq⟩ | ⟨-, heq⟩⟩ := doCommit_cases r s
  · rw [heq]
    exact h.of_agree
  · rw [heq]
    exact h.performSwap.of_agree
  · exact heq ▸ h

theorem GateLaw.of_setProgramme {s : State} (h : GateLaw s) (r : Request) : GateLaw (doSetProgramme r s) := by
  obtain ⟨x, g, heq⟩ | ⟨g, heq⟩ := doSetProgramme_cases r s <;> rw [heq] <;> exact h.of_agree

theorem GateLaw.of_monitorTest {s : State} (h : GateLaw s) (r : Request) : GateLaw (doMonitorTest r s) := by
  obtain ⟨x, ws, heq⟩ | ⟨c, d, -, -, heq⟩ := doMonitorTest_cases r s <;> rw [heq] <;> exact h.of_agree

theorem GateLaw.of_clearFaults {s : State} (h : GateLaw s) (r : Request) : GateLaw (doClearFaults r s) := by
  obtain ⟨x, w, heq⟩ := doClearFaults_answers r s
  rw [heq]
  exact h.of_agree

theorem GateLaw.of_resetControl {s : State} (h : GateLaw s) (r : Request) : GateLaw (doResetControl r s) := by
  obtain ⟨x, ws, heq⟩ | ⟨-, heq⟩ := doResetControl_cases r s
  · rw [heq]
    exact h.of_agree
  · exact GateLaw.of_closed (by simp [heq, resetControl, Gate.reset])

/-- LOAD and DISCARD leave ACTIVE alone (R151, R153). -/
theorem GateLaw.of_active {s t : State} (h : GateLaw s) (hgate : t.gate = s.gate := by simp)
    (hactive : t.tables.active = s.tables.active := by simp)
    (hvalid : t.tables.activeValid = s.tables.activeValid := by simp) (htiming : t.timing = s.timing := by simp)
    (hsupply : t.supply = s.supply := by simp) : GateLaw t := by
  simpa only [GateLaw, hgate, hactive, hvalid, htiming, hsupply] using h

theorem GateLaw.leaveQueue {s : State} (h : GateLaw s) (rest : List Request) : GateLaw (leaveQueue s rest) :=
  h.of_agree

/-- Every event keeps the law of the gate: what opens it finds the law, and what could break it closes the gate. -/
theorem gateLaw_kept : EventsKeep TablesInv GateLaw where
  dequeued _ hA h := ⟨hA, h⟩
  received p ws _ _ o _ _ h := h.of_agree.receive p ws o _
  transmitted _ _ h := h.of_agree
  silenced o _ _ h := GateLaw.reevaluate (h.of_agree (t := State.setSources _ _)) o
  completed _ _ h := h.of_agree
  staggered _ _ h := h.of_agree
  boostExpired _ _ h := h.of_agree
  measured _ _ _ _ h := h.of_agree
  sampled _ _ h := GateLaw.sampled h _
  nop _ _ h := h.of_agree
  load _ _ h := h.of_active
  readTable _ _ h := h.of_agree
  commit _ _ h := (h.leaveQueue _).of_commit _
  discard _ _ h := h.of_active
  setProgramme _ _ h := (h.leaveQueue _).of_setProgramme _
  enableDrive _ hA h := GateLaw.of_enableDrive (hA.leaveQueue _) (h.leaveQueue _) _
  disableDrive _ _ h := GateLaw.of_closed (by simp)
  monitorTest _ _ h := (h.leaveQueue _).of_monitorTest _
  clearFaults _ _ h := (h.leaveQueue _).of_clearFaults _
  clearFlags _ _ h := h.of_agree
  readState _ _ h := h.of_agree
  resetControl _ _ h := (h.leaveQueue _).of_resetControl _
  unknown _ _ h := h.of_agree
  powerOn _ h := GateLaw.of_closed rfl
  resetLine _ h := GateLaw.of_closed rfl
  resetEnded _ _ h := h.of_agree

/-- Settles O54: the banks are kept by O53, and the gate by the events one by one. -/
theorem stepsKeepTheGateLaw : Obligations.StepsKeepTheGateLaw :=
  fun s t ⟨hbanks, hlaw⟩ hstep =>
    ⟨stepsKeepTheBanksValidated s t hbanks hstep, gateLaw_kept.step hbanks hlaw hstep⟩

end Sys2Proof.Machine

/-! Offered frames and ended requests (chapters 10 and 11): the one way in which the blocks beside the link reach it. Every
operation of theirs offers frames to the insert queues and ends the request in execution, and does no more to the Link
Interface and the Management Unit. -/

namespace Sys2Proof.Machine

/-! ### Offers to a port -/

/-- A frame offered to a port's insert queue: it joins below four frames, or is lost (R170). -/
inductive OneOffer : PortUnit → PortUnit → Prop where
  | joins (u : PortUnit) (f : Frame) : u.insert.length < 4 → OneOffer u (u.pushInsert f)
  | lost (u : PortUnit) : OneOffer u u.countLost

/-- Frames offered one after another. -/
def Offers : PortUnit → PortUnit → Prop := Relation.ReflTransGen OneOffer

/-- What is kept by one offer is kept by any number. -/
theorem Offers.keeps {P : PortUnit → Prop} (hone : ∀ u v, OneOffer u v → P u → P v) {u v : PortUnit}
    (h : Offers u v) (hu : P u) : P v := by
  induction h with
  | refl => exact hu
  | tail _ hstep ih => exact hone _ _ hstep ih

/-- From `s` to `t` frames have been offered to the ports, the request in execution may have ended, and nothing else of the
Link Interface and the Management Unit has changed but the flag word. -/
structure Answers (s t : State) : Prop where
  ports : ∀ p, Offers (s.port p) (t.port p)
  node : t.link.nodeAddress = s.link.nodeAddress
  queue : t.mgmt.queue = s.mgmt.queue
  captures : t.mgmt.captures = s.mgmt.captures
  executing : t.mgmt.executing = s.mgmt.executing ∨ t.mgmt.executing = none

section
variable {s t u : State}

theorem Answers.of_agree (hlink : t.link = s.link := by simp) (hqueue : t.mgmt.queue = s.mgmt.queue := by simp)
    (hcaptures : t.mgmt.captures = s.mgmt.captures := by simp)
    (hexecuting : t.mgmt.executing = s.mgmt.executing := by simp) : Answers s t where
  ports p := by
    rw [port_of_link hlink]
    exact .refl
  node := by rw [hlink]
  queue := hqueue
  captures := hcaptures
  executing := .inl hexecuting

theorem Answers.refl (s : State) : Answers s s := .of_agree rfl rfl rfl rfl

theorem Answers.trans (h : Answers s t) (g : Answers t u) : Answers s u where
  ports p := (h.ports p).trans (g.ports p)
  node := g.node.trans h.node
  queue := g.queue.trans h.queue
  captures := g.captures.trans h.captures
  executing := g.executing.elim (fun e => e ▸ h.executing) .inr

/-- Nothing of this happens in the first part of an operation. -/
theorem Answers.after (h : Answers t u) (hlink : t.link = s.link := by simp) (hmgmt : t.mgmt = s.mgmt := by simp) :
    Answers s u :=
  (Answers.of_agree hlink (by rw [hmgmt]) (by rw [hmgmt]) (by rw [hmgmt])).trans h

/-- Nothing of this happens in the last part. -/
theorem Answers.before (h : Answers s t) (hlink : u.link = t.link := by simp) (hmgmt : u.mgmt = t.mgmt := by simp) :
    Answers s u :=
  h.trans (.of_agree hlink (by rw [hmgmt]) (by rw [hmgmt]) (by rw [hmgmt]))

theorem Answers.settled (h : Answers s t) (c : Corner) : Answers s (startSettling c t) := h.before

theorem answers_foldl {α : Type} (f : State → α → State) (h : ∀ s a, Answers s (f s a)) (l : List α) (s : State) :
    Answers s (l.foldl f s) := by
  induction l generalizing s with
  | nil => exact .refl s
  | cons a as ih => exact (h s a).trans (ih _)

end

/-! ### Replies (R170, R180) -/

theorem answers_offerFrame {limit : Nat} (hlimit : limit ≤ 4) (p : Port) (f : Frame) (s : State) :
    Answers s (offerFrame limit p f s) where
  ports q := by
    unfold offerFrame
    split
    · rename_i hroom
      rw [port_setPort]
      split
      · rename_i hq
        subst hq
        exact .single (.joins _ f (Nat.lt_of_lt_of_le hroom hlimit))
      · exact .refl
    · rw [port_setFlag, port_setPort]
      split
      · rename_i hq
        subst hq
        exact .single (.lost _)
      · exact .refl
  node := by simp
  queue := by simp
  captures := by simp
  executing := .inl (by simp)

theorem answers_answer (r : Request) (x : Result) (ws : List Word) (s : State) : Answers s (answer r x ws s) := by
  unfold answer
  split
  · exact .refl s
  · exact answers_offerFrame (Nat.le_refl 4) _ _ _

/-- The request in execution leaves its place. -/
theorem answers_emptied (s : State) : Answers s { s with mgmt := { s.mgmt with executing := none } } where
  ports _ := .refl
  node := rfl
  queue := rfl
  captures := rfl
  executing := .inr rfl

theorem answers_endExecuting (x : Result) (ws : List Word) (s : State) : Answers s (endExecuting x ws s) := by
  unfold endExecuting
  split
  · exact .refl s
  · exact (answers_emptied s).trans (answers_answer _ _ _ _)

theorem answers_abortTest (c : Corner) (s : State) : Answers s (abortTest c s) := by
  unfold abortTest
  split
  · exact .refl s
  · exact (answers_endExecuting _ _ _).after

/-! ### The Drive Unit and the Drive Gate -/

theorem answers_toWait (c : Corner) (i : Nat) (s : State) : Answers s (toWait c i s) := by
  unfold toWait
  exact (answers_abortTest c _).after.settled c

theorem answers_toBoost (c : Corner) (i : Nat) (s : State) : Answers s (toBoost c i s) := (answers_abortTest c _).after

theorem answers_toOff (c : Corner) (s : State) : Answers s (toOff c s) := by
  unfold toOff
  exact (answers_abortTest c _).after.settled c

theorem answers_grantHead (s : State) : Answers s (grantHead s) := by
  unfold grantHead
  split
  · exact .refl s
  · split
    · exact (answers_toBoost _ _ _).after
    · exact .refl s

theorem answers_endBoost (c : Corner) (i : Nat) (s : State) : Answers s (endBoost c i s) := (answers_grantHead _).after

theorem answers_requestBoost (c : Corner) (i : Nat) (s : State) : Answers s (requestBoost c i s) := by
  unfold requestBoost
  split
  · exact answers_toBoost c i s
  · exact answers_toWait c i s

theorem answers_retarget (c : Corner) (i : Nat) (s : State) : Answers s (retarget c i s) := .of_agree

theorem answers_updateTarget (c : Corner) (i : Nat) (s : State) : Answers s (updateTarget c i s) := by
  unfold updateTarget
  dsimp only
  split
  · exact .refl s
  · exact .refl s
  · split
    · exact answers_requestBoost c _ s
    · exact answers_retarget c _ s
  · split
    · exact answers_retarget c _ s
    · exact .of_agree
  · split
    · exact .of_agree
    · exact answers_endBoost c _ s

theorem answers_deliverTogether (ts : PerCorner Nat) (s : State) : Answers s (deliverTogether ts s) := by
  unfold deliverTogether
  exact ((answers_foldl _ (fun s c => answers_updateTarget c _ s) _ _).trans
    (answers_foldl _ (fun s c => answers_updateTarget c _ s) _ _)).trans
    (answers_foldl _ (fun s c => answers_requestBoost c _ s) _ _)

theorem answers_deliver (b : Bank) (ts : PerCorner Nat) (s : State) : Answers s (deliver b ts s) := by
  unfold deliver
  dsimp only
  split
  · have hupdate : Answers s (updateTarget .fl ts.fl (cancelStaggered s)) := (answers_updateTarget _ _ _).after
    exact hupdate.before rfl rfl
  · exact (answers_deliverTogether ts _).after

theorem answers_closeGate (x : CloseCause) (s : State) : Answers s (closeGate x s) := by
  unfold closeGate
  split
  · have hoff : Answers s (allDrivenOff { s with gate := { isOpen := false, cause := x } }) := by
      refine (answers_foldl _ (fun s c => ?_) _ _).after rfl rfl
      split
      · exact answers_toOff c s
      · exact .refl s
    exact hoff.before rfl rfl
  · exact .refl s

theorem answers_makeReport (y : Cycle) (s : State) : Answers s (makeReport y s) := by
  unfold makeReport
  split
  · exact answers_offerFrame (by decide) _ _ _
  · exact .refl s

theorem answers_stageDelivery (y : Cycle) (s : State) : Answers s (stageDelivery y s) := by
  unfold stageDelivery
  refine Answers.trans ?_ (answers_makeReport y _)
  split
  · exact .refl s
  · exact answers_deliver _ _ _

theorem answers_writeResults (y : Cycle) (s : State) : Answers s (writeResults y s) := by
  unfold writeResults setFlagIf
  split <;> exact .of_agree rfl rfl rfl rfl

/-! ### Measurements -/

theorem answers_latchFault (c : Corner) (x : FaultCause) (s : State) : Answers s (latchFault c x s) := by
  unfold latchFault
  dsimp only
  split
  · exact .of_agree
  · refine Answers.trans (t := setFlag .cornerFault s) (.of_agree) ?_
    refine Answers.settled (Answers.after (answers_abortTest c _) ?_ ?_) c <;> simp

theorem answers_judgeDriven (c : Corner) (m : Nat) (s : State) : Answers s (judgeDriven c m s) := by
  unfold judgeDriven
  dsimp only
  split
  · split
    · exact (answers_latchFault c _ _).after
    · exact .of_agree
  · exact .of_agree

theorem answers_judgeOff (c : Corner) (m : Nat) (s : State) : Answers s (judgeOff c m s) := by
  unfold judgeOff
  dsimp only
  split
  · split
    · exact (answers_latchFault c _ _).after
    · exact .of_agree
  · exact .of_agree

theorem answers_judgeTest (c : Corner) (m : Nat) (x : MonitorTest) (s : State) : Answers s (judgeTest c m x s) := by
  unfold judgeTest
  dsimp only
  split_ifs
  · exact (answers_endExecuting _ _ _).after
  · refine Answers.trans (t := setFlag .monitorFailed s) .of_agree ?_
    exact (answers_endExecuting _ _ _).after
  · exact .of_agree
  · exact (answers_endExecuting _ _ _).after
  · refine Answers.trans (t := setFlag .monitorFailed s) .of_agree ?_
    exact (answers_endExecuting _ _ _).after
  · exact .of_agree

theorem answers_judge (c : Corner) (m : Nat) (s : State) : Answers s (judge c m s) := by
  unfold judge
  split
  · exact .refl s
  · split
    · exact .of_agree
    · split
      · exact answers_judgeTest c m _ s
      · exact answers_judgeDriven c m s
      · exact answers_judgeDriven c m s
      · exact answers_judgeOff c m s
      · exact answers_judgeOff c m s
      · exact .refl s

theorem answers_actOnMeasurement (c : Corner) (m : Nat) (s : State) : Answers s (actOnMeasurement c m s) := by
  unfold actOnMeasurement
  split
  · split
    · exact answers_endBoost c _ s
    · exact .refl s
  all_goals exact answers_judge c m s

theorem answers_judgeLow (s : State) : Answers s (judgeLow s) := .of_agree

theorem answers_judgeSupply (s : State) : Answers s (judgeSupply s) := by
  unfold judgeSupply judgeCut
  refine (answers_judgeLow s).trans ?_
  split
  · exact Answers.trans (t := setFlag .supplyCut (judgeLow s)) .of_agree (answers_closeGate _ _)
  · exact .refl _

theorem answers_actOnSample (s : State) : Answers s (actOnSample s) := by
  have hjudged : Answers s (if s.tables.activeValid then judgeSupply s else s) := by
    split
    · exact answers_judgeSupply s
    · exact .refl s
  unfold actOnSample
  dsimp only
  generalize (if s.tables.activeValid = true then judgeSupply s else s) = u at hjudged ⊢
  split
  · exact hjudged.before
  · exact hjudged

/-! ### Sources, swaps and marks -/

theorem answers_applyProgramme (s : State) : Answers s (applyProgramme s) := by
  unfold applyProgramme
  split
  · exact .refl s
  · exact (answers_endExecuting _ _ _).after

theorem answers_closeForSilence (s : State) : Answers s (closeForSilence s) :=
  (answers_closeGate .marksSilent s).trans (.of_agree rfl rfl rfl rfl)

theorem answers_selectSource (src : Source) (s : State) : Answers s (selectSource src s) :=
  .of_agree rfl rfl rfl rfl

theorem answers_unselected (s : State) : Answers s { s with timing := { s.timing with selected := none } } :=
  .of_agree rfl rfl rfl rfl

theorem answers_reselect (s : State) : Answers s (reselect s) := by
  unfold reselect
  split
  · exact .refl s
  · split
    · exact answers_selectSource _ s
    · unfold loseSource
      exact (answers_unselected s).trans ((answers_closeForSilence _).trans (answers_applyProgramme _))

theorem answers_performSwap (s : State) : Answers s (performSwap s) := by
  have hswap (o : Tables) (s : State) : Answers s (swapTiming o s) := by
      unfold swapTiming
      exact (answers_reselect _).after
  have hsupply (o : Tables) (s : State) : Answers s (swapSupply o s) := by
    unfold swapSupply
    split
    · exact .refl s
    · exact answers_judgeSupply s
  have htiming : Answers s (swapTiming s.tables (swapCapture s.tables (copyStaged s))) := (hswap _ _).after
  unfold performSwap
  dsimp only
  generalize swapTiming s.tables (swapCapture s.tables (copyStaged s)) = u at htiming ⊢
  have hdrive : Answers s (swapDrive s.tables (swapPreview s.tables u)) := htiming.before
  exact Answers.before (hdrive.trans (hsupply s.tables _))

theorem answers_completeCommit (s : State) : Answers s (completeCommit s) := by
  unfold completeCommit
  split
  · exact (answers_performSwap s).trans (answers_endExecuting _ _ _)
  · exact .refl s

theorem answers_reevaluate (o : Bool) (s : State) : Answers s (reevaluate o s) := by
  unfold reevaluate
  split
  · exact .refl s
  · split
    · exact answers_selectSource _ s
    · dsimp only
      refine Answers.trans ?_ (answers_applyProgramme _)
      split
      · exact (answers_unselected s).trans ((answers_completeCommit _).trans (answers_closeForSilence _))
      · exact (answers_unselected s).trans ((answers_closeForSilence _).trans (answers_completeCommit _))

theorem answers_startCycle (k : Nat) (seq : Word) (n : Count) (s : State) : Answers s (startCycle k seq n s) := by
  unfold startCycle
  dsimp only
  refine ((answers_completeCommit s).trans (answers_applyProgramme _)).trans ?_
  generalize anyStale _ = b
  cases b <;> exact .of_agree (by simp) (by simp) (by simp) (by simp)

theorem answers_markArrives (src : Source) (s : State) : Answers s (markArrives src s) := by
  unfold markArrives restartTimer
  split
  · exact (answers_reevaluate false _).after
  · exact .of_agree

theorem answers_examineMark (p : Port) (seq : Word) (s : State) : Answers s (examineMark p seq s) := by
  unfold examineMark
  split
  · exact .of_agree
  · split
    · exact .of_agree rfl rfl rfl rfl
    · rename_i k gap _
      unfold serveMark
      have hgap : Answers s (setFlagIf gap .markGap s) := by
        cases gap <;> exact .of_agree
      exact hgap.trans ((answers_startCycle k seq _ _).after rfl rfl)

theorem answers_readMark (p : Port) (ident : Nat) (ws : List Word) (s : State) :
    Answers s (readMark p ident ws s) := by
  unfold readMark
  split
  · exact .refl s
  · split
    · exact answers_markArrives _ s
    · split
      · exact (answers_markArrives _ s).trans (answers_examineMark p _ _)
      · exact answers_markArrives _ s

theorem answers_handOver (p : Port) (ws : List Word) (s : State) : Answers s (handOver p ws s) := by
  unfold handOver
  dsimp only
  split_ifs
  · exact .of_agree
  · exact answers_readMark p _ _ s
  · exact .refl s

/-! ### Requests -/

theorem answers_toHold (c : Corner) (i : Nat) (s : State) : Answers s (toHold c i s) := .of_agree

theorem answers_clearNamed (w : Word) (s : State) : Answers s (clearNamed w s) := by
  refine answers_foldl _ (fun s c => ?_) _ _
  rw [clearFault_eq]
  split
  · split
    · exact (answers_toHold c _ _).after
    · exact (answers_toOff c _).after
  · exact .of_agree

end Sys2Proof.Machine

/-! The laws of the link (chapter 10): the bounds of its queues and the sum of its counters, kept by every step. -/

namespace Sys2Proof.Machine

/-! ### Invariants of the link -/

/-- What an invariant of the Link Interface and the Management Unit has to survive: offers and ended requests, a request that
leaves the queue to be answered or to wait, receptions, transmissions, captures and resets. -/
structure LinkKeeps (P : State → Prop) : Prop where
  answers : ∀ {s t : State}, P s → Answers s t → P t
  leaves : ∀ {s : State} {r : Request} {rest : List Request} {code : BitVec 7}, AtExecution s r rest code → P s →
    P (leaveQueue s rest)
  waits : ∀ {s t : State} {r : Request} {rest : List Request} {code : BitVec 7}, AtExecution s r rest code → P s →
    t.link = s.link → t.mgmt = (leaveQueue s rest).mgmt → P (keepExecuting r t)
  received : ∀ {s : State} (p : Port) (ws : List Word) (d w o : Bool), P s →
    P (receive p ws o (countAt p (judgeReception s p ws d w) s) (judgeReception s p ws d w))
  transmitted : ∀ {s : State} (p : Port) (x : Transmission), P s → P (s.setPort p ((s.port p).complete x).start)
  captured : ∀ {s : State} (p : Port) (clear : Bool), P s → P (captureCounters p clear s)
  reset : ∀ (t : Tables) (w : Word) (s : State), P (resetBlocks t w s)
  readdressed : ∀ {s t : State}, P s → t.link.ports = s.link.ports → t.mgmt = s.mgmt → P t

section
variable {P : State → Prop} (k : LinkKeeps P) {s : State} (r : Request)
include k

theorem LinkKeeps.answer (h : P s) (x : Result) (ws : List Word) : P (answer r x ws s) :=
  k.answers h (answers_answer r x ws s)

theorem LinkKeeps.load (h : P s) : P (doLoad r s) := by
  obtain ⟨x, b, heq, -⟩ := doLoad_answers r s
  rw [heq]
  exact k.answers h (answers_answer _ _ _ _).after

theorem LinkKeeps.readTable (h : P s) : P (doReadTable r s) := by
  obtain ⟨x, ws, heq⟩ := doReadTable_answers r s
  exact heq ▸ k.answer r h x ws

theorem LinkKeeps.readState (h : P s) : P (doReadState r s) := by
  obtain ⟨x, ws, heq⟩ | ⟨p, clear, ws, heq⟩ := doReadState_answers r s
  · exact heq ▸ k.answer r h x ws
  · exact heq ▸ k.answer r (k.captured p clear h) _ ws

theorem LinkKeeps.resetControl (h : P s) : P (doResetControl r s) := by
  obtain ⟨x, ws, heq⟩ | ⟨-, heq⟩ := doResetControl_cases r s
  · exact heq ▸ k.answer r h x ws
  · exact heq ▸ k.answers h ((answers_answer _ _ _ _).after rfl rfl)

theorem LinkKeeps.enableDrive (h : P s) : P (doEnableDrive r s) := by
  obtain ⟨x, ws, heq⟩ | ⟨-, -, -, -, heq⟩ := doEnableDrive_cases r s
  · exact heq ▸ k.answer r h x ws
  · rw [heq]
    exact k.answers h (answers_answer _ _ _ _).after

theorem LinkKeeps.clearFlags (h : P s) : P (doClearFlags r s) := by
  obtain ⟨x, ws, w, heq⟩ := doClearFlags_answers r s
  exact heq ▸ k.answer r (k.answers h (Answers.of_agree (t := Machine.clearFlags w s))) x ws

theorem LinkKeeps.clearFaults (h : P s) : P (doClearFaults r s) := by
  obtain ⟨x, w, heq⟩ := doClearFaults_answers r s
  exact heq ▸ k.answer r (k.answers h (answers_clearNamed w s)) x []

variable {r} {rest : List Request} {code : BitVec 7} (hat : AtExecution s r rest code)
include hat

theorem LinkKeeps.commit (h : P s) : P (doCommit r (leaveQueue s rest)) := by
  obtain ⟨x, ws, heq⟩ | ⟨-, ⟨-, heq⟩ | ⟨-, heq⟩⟩ := doCommit_cases r (leaveQueue s rest)
  · exact heq ▸ k.answer r (k.leaves hat h) x ws
  · exact heq ▸ k.answer r (k.answers (k.leaves hat h) (answers_performSwap _)) _ []
  · exact heq ▸ k.waits hat h rfl rfl

theorem LinkKeeps.setProgramme (h : P s) : P (doSetProgramme r (leaveQueue s rest)) := by
  obtain ⟨x, g, heq⟩ | ⟨g, heq⟩ := doSetProgramme_cases r (leaveQueue s rest)
  · exact heq ▸ k.answers (k.leaves hat h) ((answers_answer _ _ _ _).after rfl rfl)
  · exact heq ▸ k.waits hat h rfl rfl

theorem LinkKeeps.monitorTest (h : P s) : P (doMonitorTest r (leaveQueue s rest)) := by
  obtain ⟨x, ws, heq⟩ | ⟨c, d, -, -, heq⟩ := doMonitorTest_cases r (leaveQueue s rest)
  · exact heq ▸ k.answer r (k.leaves hat h) x ws
  · exact heq ▸ k.waits hat h rfl rfl

end

theorem LinkKeeps.measured {P : State → Prop} (k : LinkKeeps P) {s : State} (h : P s) (c : Corner) (m : Nat) :
    P (endPeriod c (actOnMeasurement c m (keepMeasurement c m (runPeriod c s)))) := by
  have hacted : Answers s (actOnMeasurement c m (keepMeasurement c m (runPeriod c s))) :=
    (answers_actOnMeasurement c m _).after
  exact k.answers h hacted.before

/-- An invariant of the link is kept by every event: the other blocks reach the link by offers and ended requests alone. -/
theorem LinkKeeps.events {P : State → Prop} (k : LinkKeeps P) : EventsKeep (fun _ => True) P where
  dequeued _ _ h := ⟨trivial, k.readdressed h rfl rfl⟩
  received p ws d w o _ _ h := k.received p ws d w o h
  transmitted _ _ h := k.transmitted _ _ h
  silenced o _ _ h := k.answers h (answers_reevaluate o _).after
  completed _ _ h := k.answers h ((answers_writeResults _ _).trans (answers_stageDelivery _ _))
  staggered _ _ h := k.answers h (answers_updateTarget _ _ _).after
  boostExpired {s c _} _ _ h :=
    k.answers h ((Answers.of_agree (t := setFlag .boostTimeout (countTimeout c s))).trans (answers_endBoost _ _ _))
  measured c m _ _ h := k.measured h c m
  sampled _ _ h := k.answers h ((answers_actOnSample _).after rfl rfl)
  nop hat _ h := k.answer _ (k.leaves hat h) _ _
  load hat _ h := k.load _ (k.leaves hat h)
  readTable hat _ h := k.readTable _ (k.leaves hat h)
  commit hat _ h := k.commit hat h
  discard hat _ h := k.answers (k.leaves hat h) (answers_answer _ _ _ _).after
  setProgramme hat _ h := k.setProgramme hat h
  enableDrive hat _ h := k.enableDrive _ (k.leaves hat h)
  disableDrive hat _ h := k.answers (k.leaves hat h) ((answers_closeGate _ _).trans (answers_answer _ _ _ _))
  monitorTest hat _ h := k.monitorTest hat h
  clearFaults hat _ h := k.clearFaults _ (k.leaves hat h)
  clearFlags hat _ h := k.clearFlags _ (k.leaves hat h)
  readState hat _ h := k.readState _ (k.leaves hat h)
  resetControl hat _ h := k.resetControl _ (k.leaves hat h)
  unknown hat _ h := k.answer _ (k.leaves hat h) _ _
  powerOn _ _ := k.reset _ _ _
  resetLine _ _ := k.reset _ _ _
  resetEnded _ _ h := k.readdressed h rfl rfl

/-! ### One port (R169 to R174) -/

/-- The bounds of a port's queues and of its wait count (R169, R170, R172). -/
def PortUnit.Bounded (u : PortUnit) : Prop :=
  u.fifo.length ≤ 8 ∧ u.insert.length ≤ 4 ∧ u.waitCount ≤ 3 ∧ (u.insert = [] → u.waitCount = 0)

/-- A free transmitter stands beside empty sources (R171). -/
def PortUnit.Served (u : PortUnit) : Prop := u.line = none → u.fifo = [] ∧ u.insert = []

/-- Starting a frame keeps the bounds: the wait count grows only below three, with an inserted frame waiting (R172). -/
theorem PortUnit.Bounded.start {u : PortUnit} (h : u.Bounded) : u.start.Bounded := by
  obtain ⟨hfifo, hinsert, hwait, hempty⟩ := h
  unfold PortUnit.start
  split
  · exact ⟨hfifo, hinsert, hwait, hempty⟩
  · exact ⟨hfifo, hinsert, hwait, hempty⟩
  · rename_i f fs _ hqueue hnone
    rw [hqueue, List.length_cons] at hfifo
    exact ⟨Nat.le_of_succ_le hfifo, hinsert, hwait, hempty⟩
  · rename_i g gs _ _ hqueue
    rw [hqueue, List.length_cons] at hinsert
    exact ⟨hfifo, Nat.le_of_succ_le hinsert, Nat.zero_le _, fun _ => rfl⟩
  · rename_i f fs g gs _ hqueue hwaiting
    rw [hqueue, List.length_cons] at hfifo
    split
    · rw [hwaiting, List.length_cons] at hinsert
      exact ⟨hqueue ▸ hfifo, Nat.le_of_succ_le hinsert, Nat.zero_le _, fun _ => rfl⟩
    · rename_i hlimit
      refine ⟨Nat.le_of_succ_le hfifo, hinsert, Nat.lt_of_not_le hlimit, fun hnone => ?_⟩
      rw [hwaiting] at hnone
      cases hnone

theorem PortUnit.served_start (u : PortUnit) : u.start.Served := start_free

theorem bounded_pushInsert {u : PortUnit} (f : Frame) (h : u.Bounded) (hroom : u.insert.length < 4) :
    (u.pushInsert f).Bounded := by
  obtain ⟨hfifo, -, hwait, -⟩ := h
  exact PortUnit.Bounded.start ⟨hfifo, by simpa using hroom, hwait, by simp⟩

theorem bounded_pushForward {u : PortUnit} (f : Frame) (h : u.Bounded) (hroom : u.fifo.length < 8) :
    (u.pushForward f).Bounded := by
  obtain ⟨-, hinsert, hwait, hempty⟩ := h
  exact PortUnit.Bounded.start ⟨by simpa using hroom, hinsert, hwait, hempty⟩

theorem oneOffer_keeps_laws {u v : PortUnit} (h : OneOffer u v) (hu : u.Bounded ∧ u.Served) :
    v.Bounded ∧ v.Served := by
  cases h with
  | joins f hroom => exact ⟨bounded_pushInsert f hu.1 hroom, PortUnit.served_start _⟩
  | lost => exact hu

/-- Offers lengthen no forward FIFO. -/
theorem oneOffer_keeps_room {n : Nat} {u v : PortUnit} (h : OneOffer u v) (hu : u.fifo.length < n) :
    v.fifo.length < n := by
  cases h with
  | joins f _ => exact Nat.lt_of_le_of_lt (start_lengths _).1 hu
  | lost => exact hu

/-! ### The bounds of the queues -/

/-- The clause of `QueueInv` about the ports. -/
def PortsBounded (s : State) : Prop := ∀ p, (s.port p).Bounded ∧ (s.port p).Served

theorem queueInv_iff (s : State) :
    QueueInv s ↔ PortsBounded s ∧ s.mgmt.queue.length + s.mgmt.executing.isSome.toNat ≤ 4 := by
  simp only [QueueInv, PortsBounded, PortUnit.Bounded, PortUnit.Served, and_assoc]

section
variable {s t : State}

theorem PortsBounded.answers (h : PortsBounded s) (g : Answers s t) : PortsBounded t :=
  fun p => (g.ports p).keeps (P := fun u => u.Bounded ∧ u.Served) (fun _ _ => oneOffer_keeps_laws) (h p)

theorem PortsBounded.of_link (h : PortsBounded s) (hlink : t.link = s.link) : PortsBounded t := fun p => by
  rw [port_of_link hlink]
  exact h p

theorem PortsBounded.setPort (h : PortsBounded s) {p : Port} {u : PortUnit} (hu : u.Bounded ∧ u.Served) :
    PortsBounded (s.setPort p u) := fun q => by
  rw [port_setPort]
  split
  · exact hu
  · exact h q

theorem QueueInv.answers (h : QueueInv s) (g : Answers s t) : QueueInv t := by
  rw [queueInv_iff] at h ⊢
  obtain ⟨hports, hqueue⟩ := h
  refine ⟨hports.answers g, ?_⟩
  rw [g.queue]
  rcases g.executing with hsame | hnone
  · rwa [hsame]
  · rw [hnone]
    exact (Nat.le_add_right _ _).trans hqueue

theorem QueueInv.setPort (h : QueueInv s) {p : Port} {u : PortUnit} (hu : u.Bounded ∧ u.Served) :
    QueueInv (s.setPort p u) := by
  rw [queueInv_iff] at h ⊢
  exact ⟨h.1.setPort hu, h.2⟩

/-- The oldest request leaves the queue: one place at least is then free. -/
theorem QueueInv.leaveQueue {r : Request} {rest : List Request} {code : BitVec 7} (h : QueueInv s)
    (hat : AtExecution s r rest code) : QueueInv (leaveQueue s rest) ∧ rest.length < 4 := by
  obtain ⟨-, hidle, hqueue, -⟩ := hat
  rw [queueInv_iff] at h ⊢
  obtain ⟨hports, hlength⟩ := h
  simp only [hidle, hqueue, List.length_cons, Option.isSome_none, Bool.toNat_false] at hlength
  refine ⟨⟨hports, ?_⟩, by omega⟩
  simp only [leaveQueue_frame, hidle, Option.isSome_none, Bool.toNat_false]
  omega

/-- A request that waits takes the place it has left. -/
theorem QueueInv.keepExecuting (h : QueueInv s) (hroom : s.mgmt.queue.length < 4) (r : Request)
    (hlink : t.link = s.link) (hqueue : t.mgmt.queue = s.mgmt.queue) : QueueInv (keepExecuting r t) := by
  rw [queueInv_iff] at h ⊢
  refine ⟨h.1.of_link hlink, ?_⟩
  simp only [keepExecuting_mgmt, hqueue, Option.isSome_some, Bool.toNat_true]
  omega

/-! ### Receptions -/

theorem countAt_port (p q : Port) (o : Reception) (s : State) :
    (countAt p o s).port q =
      if q = p then { s.port p with counters := countReception (s.port p).counters o } else s.port q :=
  port_setPort _ _ _ _

/-- Counting a reception touches no queue. -/
theorem QueueInv.countAt (h : QueueInv s) (p : Port) (o : Reception) : QueueInv (countAt p o s) :=
  h.setPort (u := { s.port p with counters := countReception (s.port p).counters o }) (((queueInv_iff s).mp h).1 p)

theorem countAt_fifo (p q : Port) (o : Reception) (s : State) :
    ((countAt p o s).port q).fifo = (s.port q).fifo := by
  rw [countAt_port]
  split
  · rename_i hq
    rw [hq]
  · rfl

theorem QueueInv.forward (h : QueueInv s) (p : Port) (ws : List Word)
    (hroom : (s.port (opposite p)).fifo.length < 8) : QueueInv (forward p ws s) :=
  h.setPort ⟨bounded_pushForward ws (((queueInv_iff s).mp h).1 _).1 hroom, PortUnit.served_start _⟩

/-- No request is queued and none in execution (R182). -/
theorem QueueInv.abortRequests (h : QueueInv s) (r : Request) : QueueInv (abortRequests r s) := by
  rw [queueInv_iff] at h
  unfold Machine.abortRequests
  refine QueueInv.answers ?_ (answers_answer _ _ _ _)
  rw [queueInv_iff]
  refine ⟨h.1.of_link ?_, by simp⟩
  cases s.mgmt.executing with
  | none => rfl
  | some x => exact (cancelWaiting_frame x s).2.2.1

theorem QueueInv.takeRequestFrame (h : QueueInv s) (p : Port) (ws : List Word) :
    QueueInv (takeRequestFrame p ws s) := by
  unfold Machine.takeRequestFrame
  split
  · exact h
  · dsimp only
    split_ifs with _ hroom
    · exact h.abortRequests _
    · rw [queueInv_iff] at h ⊢
      refine ⟨h.1, ?_⟩
      simp only [queuedRequests, Config.requestPlaces] at hroom
      simp only [List.length_append, List.length_singleton]
      omega
    · exact h.answers (answers_offerFrame (Nat.le_refl 4) _ _ _)

/-- A frame is accepted only with room for it (R167). -/
theorem room_of_accepted {p : Port} {ws : List Word} {d w : Bool} (h : judgeReception s p ws d w = .accepted) :
    (s.port (opposite p)).fifo.length < 8 := by
  unfold judgeReception at h
  split_ifs at h with _ _ _ hroom
  exact Nat.lt_of_not_le hroom

theorem QueueInv.receive (h : QueueInv s) (p : Port) (ws : List Word) (o : Bool) (x : Reception)
    (hroom : x = .accepted → (s.port (opposite p)).fifo.length < 8) : QueueInv (receive p ws o s x) := by
  cases x with
  | check => exact h
  | format => exact h
  | consumed => exact h.takeRequestFrame p _
  | full => exact QueueInv.answers (s := setFlag .fullDrops s) h (answers_handOver p ws _)
  | accepted =>
    cases o with
    | true =>
      have hoffers := answers_handOver p ws s
      exact (h.answers hoffers).forward p ws
        ((hoffers.ports _).keeps (P := fun u => u.fifo.length < 8) (fun _ _ => oneOffer_keeps_room) (hroom rfl))
    | false => exact (h.forward p ws (hroom rfl)).answers (answers_handOver p ws _)

end

theorem QueueInv.captureCounters {s : State} (h : QueueInv s) (p : Port) (clear : Bool) :
    QueueInv (captureCounters p clear s) := by
  have hcaptured : QueueInv { s with mgmt := { s.mgmt with captures := s.mgmt.captures.set p (s.port p).counters } } := h
  unfold Machine.captureCounters
  cases clear with
  | false => exact hcaptured
  | true => exact hcaptured.setPort (u := { s.port p with counters := Counters.zero }) (((queueInv_iff s).mp h).1 p)

theorem queueInv_of_reset (t : Tables) (w : Word) (s : State) : QueueInv (resetBlocks t w s) := by
  refine ⟨fun p => ?_, Nat.zero_le 4⟩
  cases p <;> exact ⟨Nat.zero_le 8, Nat.zero_le 4, Nat.zero_le 3, fun _ => rfl, fun _ => ⟨rfl, rfl⟩⟩

theorem queueInv_kept : LinkKeeps QueueInv where
  answers h g := h.answers g
  leaves hat h := (h.leaveQueue hat).1
  waits hat h hlink hmgmt :=
    (h.leaveQueue hat).1.keepExecuting (h.leaveQueue hat).2 _ hlink (congrArg Mgmt.queue hmgmt)
  received p ws _ _ o h :=
    (h.countAt p _).receive p ws o _ fun hx => by
      rw [countAt_fifo]
      exact room_of_accepted hx
  transmitted {s} p x h :=
    h.setPort ⟨PortUnit.Bounded.start (u := (s.port p).complete x) (((queueInv_iff s).mp h).1 p).1,
      PortUnit.served_start _⟩
  captured p clear h := h.captureCounters p clear
  reset := queueInv_of_reset
  readdressed h hports hmgmt := by
    simpa only [QueueInv, State.port, hports, hmgmt] using h

/-! ### The sum of the counters (R167, R185) -/

/-- An offer touches no counter but INSERT_LOST. -/
theorem oneOffer_keeps_sum {u v : PortUnit} (h : OneOffer u v) (hu : u.counters.addUp) : v.counters.addUp := by
  cases h with
  | joins f _ => simpa [PortUnit.pushInsert] using hu
  | lost => exact hu

/-- RECEIVED and one of its five parts grow by one together (R167). -/
theorem addUp_countReception {k : Counters} (h : k.addUp) (o : Reception) : (countReception k o).addUp := by
  simp only [Counters.addUp] at h ⊢
  cases o <;> simp only [countReception, h] <;> ring

theorem addUp_zero : Counters.zero.addUp := by
  simp [Counters.addUp, Counters.zero]

section
variable {s t : State}

theorem CountersInv.answers (h : CountersInv s) (g : Answers s t) : CountersInv t := fun p => by
  obtain ⟨hport, hcapture⟩ := h p
  exact ⟨(g.ports p).keeps (P := fun u => u.counters.addUp) (fun _ _ => oneOffer_keeps_sum) hport,
    g.captures ▸ hcapture⟩

theorem CountersInv.of_agree (h : CountersInv s) (hlink : t.link = s.link)
    (hcaptures : t.mgmt.captures = s.mgmt.captures) : CountersInv t := fun p => by
  rw [port_of_link hlink, hcaptures]
  exact h p

theorem CountersInv.setPort (h : CountersInv s) {p : Port} {u : PortUnit} (hu : u.counters.addUp) :
    CountersInv (s.setPort p u) := fun q => by
  rw [port_setPort]
  refine ⟨?_, (h q).2⟩
  split
  · exact hu
  · exact (h q).1

theorem CountersInv.countAt (h : CountersInv s) (p : Port) (o : Reception) : CountersInv (countAt p o s) :=
  h.setPort (addUp_countReception (h p).1 o)

theorem CountersInv.forward (h : CountersInv s) (p : Port) (ws : List Word) : CountersInv (forward p ws s) :=
  h.setPort (by simpa [PortUnit.pushForward] using (h (opposite p)).1)

theorem CountersInv.takeRequestFrame (h : CountersInv s) (p : Port) (ws : List Word) :
    CountersInv (takeRequestFrame p ws s) := by
  unfold Machine.takeRequestFrame
  split
  · exact h
  · dsimp only
    split_ifs
    · unfold abortRequests
      refine CountersInv.answers (h.of_agree ?_ ?_) (answers_answer _ _ _ _)
      · cases s.mgmt.executing <;> simp
      · cases s.mgmt.executing <;> simp
    · exact h
    · exact h.answers (answers_offerFrame (Nat.le_refl 4) _ _ _)

theorem CountersInv.receive (h : CountersInv s) (p : Port) (ws : List Word) (o : Bool) (x : Reception) :
    CountersInv (receive p ws o s x) := by
  cases x with
  | check => exact h
  | format => exact h
  | consumed => exact h.takeRequestFrame p _
  | full => exact CountersInv.answers (s := setFlag .fullDrops s) h (answers_handOver p ws _)
  | accepted =>
    cases o with
    | true => exact (h.answers (answers_handOver p ws s)).forward p ws
    | false => exact (h.forward p ws).answers (answers_handOver p ws _)

/-- The capture takes the counters as they stand, and clearing leaves the sum 0 (R185). -/
theorem CountersInv.captureCounters (h : CountersInv s) (p : Port) (clear : Bool) :
    CountersInv (captureCounters p clear s) := by
  have hcaptured :
      CountersInv { s with mgmt := { s.mgmt with captures := s.mgmt.captures.set p (s.port p).counters } } := by
    intro q
    refine ⟨(h q).1, ?_⟩
    dsimp only
    rw [PerPort.get_set]
    split
    · exact (h p).1
    · exact (h q).2
  unfold Machine.captureCounters
  cases clear with
  | false => exact hcaptured
  | true => exact hcaptured.setPort (u := { s.port p with counters := Counters.zero }) addUp_zero

end

theorem countersInv_of_reset (t : Tables) (w : Word) (s : State) : CountersInv (resetBlocks t w s) := fun p => by
  cases p <;> exact ⟨addUp_zero, addUp_zero⟩

theorem countersInv_kept : LinkKeeps CountersInv where
  answers h g := h.answers g
  leaves _ h := h
  waits _ h hlink hmgmt := h.of_agree hlink (by simp [hmgmt])
  received p ws _ _ o h := (h.countAt p _).receive p ws o _
  transmitted {s} p x h := h.setPort (by
    rw [start_counters, PortUnit.complete]
    cases x.inserted <;> exact (h p).1)
  captured p clear h := h.captureCounters p clear
  reset := countersInv_of_reset
  readdressed h hports hmgmt := by
    simpa only [CountersInv, State.port, hports, hmgmt] using h

/-- Settles O57: both are invariants of the link. -/
theorem stepsKeepTheLinkLaws : Obligations.StepsKeepTheLinkLaws :=
  ⟨fun _ _ h hstep => queueInv_kept.events.step trivial h hstep,
    fun _ _ h hstep => countersInv_kept.events.step trivial h hstep⟩

end Sys2Proof.Machine

/-! The source states and the selected source (chapter 1), kept in their laws by every step. -/

namespace Sys2Proof.Machine

/-! ### Invariants of Cycle Timing -/

/-- What an invariant of the source states, the selected source and ACTIVE has to survive: swaps, marks, silences and
resets. -/
structure SourcesKeep (P : State → Prop) : Prop where
  agrees : ∀ {s t : State}, P s → t.timing.sources = s.timing.sources → t.timing.selected = s.timing.selected →
    t.tables.active = s.tables.active → t.tables.activeValid = s.tables.activeValid → P t
  swapped : ∀ {s : State}, P s → P (performSwap s)
  silenced : ∀ {s : State} (src : Source) (o : Bool), P s →
    P (reevaluate o (s.setSources (s.timing.sources.set src .silent)))
  arrives : ∀ {s : State} {ident : Nat} {src : Source}, markSource s.tables ident = some src → P s →
    P (markArrives src s)
  reset : ∀ (t : Tables) (w : Word) (s : State), P (resetBlocks t w s)

section
variable {P : State → Prop} (k : SourcesKeep P) {s t : State}
include k

theorem SourcesKeep.of_agree (h : P s) (hsources : t.timing.sources = s.timing.sources := by simp)
    (hselected : t.timing.selected = s.timing.selected := by simp)
    (hactive : t.tables.active = s.tables.active := by simp)
    (hvalid : t.tables.activeValid = s.tables.activeValid := by simp) : P t :=
  k.agrees h hsources hselected hactive hvalid

theorem SourcesKeep.completeCommit (h : P s) : P (completeCommit s) := by
  unfold Machine.completeCommit
  split
  · exact k.of_agree (k.swapped h)
  · exact h

theorem SourcesKeep.startCycle (h : P s) (n : Nat) (seq : Word) (number : Count) :
    P (startCycle n seq number s) := by
  obtain ⟨-, -, -, -, hselected, hsources⟩ := startCycle_keeps n seq number s
  have htables := startCycle_tables n seq number s
  exact k.agrees (k.completeCommit h) hsources hselected (congrArg Tables.active htables)
    (congrArg Tables.activeValid htables)

theorem SourcesKeep.examineMark (h : P s) (p : Port) (seq : Word) : P (examineMark p seq s) := by
  unfold Machine.examineMark
  split
  · exact k.of_agree h
  · split
    · exact k.agrees h rfl rfl rfl rfl
    · unfold serveMark
      exact k.startCycle (k.of_agree h) _ _ _

theorem SourcesKeep.readMark (h : P s) (p : Port) (ident : Nat) (ws : List Word) : P (readMark p ident ws s) := by
  unfold Machine.readMark
  split
  · exact h
  · rename_i src hsrc
    split
    · exact k.arrives hsrc h
    · split
      · exact k.examineMark (k.arrives hsrc h) p _
      · exact k.arrives hsrc h

theorem SourcesKeep.handOver (h : P s) (p : Port) (ws : List Word) : P (handOver p ws s) := by
  unfold Machine.handOver
  dsimp only
  split_ifs
  · exact k.of_agree h
  · exact k.readMark h p _ _
  · exact h

theorem SourcesKeep.receive (h : P s) (p : Port) (ws : List Word) (o : Bool) (x : Reception) :
    P (receive p ws o s x) := by
  cases x with
  | check => exact k.agrees h rfl rfl rfl rfl
  | format => exact k.agrees h rfl rfl rfl rfl
  | consumed =>
    obtain ⟨hactive, hvalid, -⟩ := takeRequestFrame_active p (framePayload ws) s
    exact k.agrees h (by simp [Machine.receive]) (by simp [Machine.receive]) hactive hvalid
  | full => exact k.handOver (s := setFlag .fullDrops s) (k.agrees h rfl rfl rfl rfl) p ws
  | accepted =>
    cases o with
    | true => exact k.of_agree (t := forward p ws (Machine.handOver p ws s)) (k.handOver h p ws)
    | false => exact k.handOver (k.of_agree (t := forward p ws s) h) p ws

theorem SourcesKeep.commit (h : P s) (r : Request) : P (doCommit r s) := by
  obtain ⟨x, ws, heq⟩ | ⟨-, ⟨-, heq⟩ | ⟨-, heq⟩⟩ := doCommit_cases r s <;> rw [heq]
  · exact k.of_agree h
  · exact k.of_agree (k.swapped h)
  · exact k.of_agree h

theorem SourcesKeep.setProgramme (h : P s) (r : Request) : P (doSetProgramme r s) := by
  obtain ⟨x, g, heq⟩ | ⟨g, heq⟩ := doSetProgramme_cases r s <;> rw [heq] <;> exact k.of_agree h

theorem SourcesKeep.enableDrive (h : P s) (r : Request) : P (doEnableDrive r s) := by
  obtain ⟨x, ws, heq⟩ | ⟨-, -, -, -, heq⟩ := doEnableDrive_cases r s <;> rw [heq] <;> exact k.of_agree h

theorem SourcesKeep.monitorTest (h : P s) (r : Request) : P (doMonitorTest r s) := by
  obtain ⟨x, ws, heq⟩ | ⟨c, d, -, -, heq⟩ := doMonitorTest_cases r s <;> rw [heq] <;> exact k.of_agree h

theorem SourcesKeep.clearFaults (h : P s) (r : Request) : P (doClearFaults r s) := by
  obtain ⟨x, w, heq⟩ := doClearFaults_answers r s
  rw [heq]
  exact k.of_agree h

/-- RESET_CONTROL keeps the source states and the selection (R21). -/
theorem SourcesKeep.resetControl (h : P s) (r : Request) : P (doResetControl r s) := by
  obtain ⟨x, ws, heq⟩ | ⟨-, heq⟩ := doResetControl_cases r s <;> rw [heq]
  · exact k.of_agree h
  · exact k.of_agree h (by simp [Machine.resetControl]) (by simp [Machine.resetControl])
      (by simp [Machine.resetControl]) (by simp [Machine.resetControl])

/-- Every event keeps such an invariant. -/
theorem SourcesKeep.events : EventsKeep (fun _ => True) P where
  dequeued _ _ h := ⟨trivial, k.agrees h rfl rfl rfl rfl⟩
  received p ws _ _ o _ _ h := k.receive (k.of_agree h) p ws o _
  transmitted _ _ h := k.of_agree h
  silenced o _ _ h := k.silenced _ o h
  completed _ _ h := k.of_agree h
  staggered _ _ h := k.of_agree h
  boostExpired _ _ h := k.of_agree h
  measured _ _ _ _ h := k.of_agree h
  sampled _ _ h := k.of_agree h (by simp [keepSample]) (by simp [keepSample]) (by simp [keepSample])
    (by simp [keepSample])
  nop _ _ h := k.of_agree h
  load _ _ h := k.of_agree h
  readTable _ _ h := k.of_agree h
  commit _ _ h := k.commit (k.of_agree h) _
  discard _ _ h := k.of_agree h
  setProgramme _ _ h := k.setProgramme (k.of_agree h) _
  enableDrive _ _ h := k.enableDrive (k.of_agree h) _
  disableDrive _ _ h := k.of_agree h
  monitorTest _ _ h := k.monitorTest (k.of_agree h) _
  clearFaults _ _ h := k.clearFaults (k.of_agree h) _
  clearFlags _ _ h := k.of_agree h
  readState _ _ h := k.of_agree h
  resetControl _ _ h := k.resetControl (k.of_agree h) _
  unknown _ _ h := k.of_agree h
  powerOn _ _ := k.reset _ _ _
  resetLine _ _ := k.reset _ _ _
  resetEnded _ _ h := k.agrees h rfl rfl rfl rfl

end

/-! ### The selected source (R5) -/

section
variable {s t : State}

theorem SelectionInv.agrees (h : SelectionInv s) (hsources : t.timing.sources = s.timing.sources)
    (hselected : t.timing.selected = s.timing.selected) : SelectionInv t := by
  simpa only [SelectionInv, hsources, hselected] using h

/-- A re-evaluation leaves the selection that R5 gives, whatever it was before. -/
theorem selectionInv_reselect (s : State) : SelectionInv (reselect s) := by
  unfold reselect
  split
  · rename_i hsame
    exact hsame.symm
  · split
    · rename_i src hsrc
      exact hsrc.symm
    · rename_i hnone
      simpa [SelectionInv, loseSource] using hnone.symm

theorem selectionInv_performSwap (s : State) : SelectionInv (performSwap s) := by
  have hswap := selectionInv_reselect ((swapCapture s.tables (copyStaged s)).setSources
    { a := if s.tables.active.identA = (swapCapture s.tables (copyStaged s)).tables.active.identA then
        (swapCapture s.tables (copyStaged s)).timing.sources.a else .silent
      b := if s.tables.active.identB = (swapCapture s.tables (copyStaged s)).tables.active.identB then
        (swapCapture s.tables (copyStaged s)).timing.sources.b else .silent })
  exact hswap.agrees (by simp [performSwap, swapTiming]) (by simp [performSwap, swapTiming])

theorem SelectionInv.completeCommit (h : SelectionInv s) : SelectionInv (completeCommit s) := by
  unfold Machine.completeCommit
  split
  · exact (selectionInv_performSwap s).agrees (by simp) (by simp)
  · exact h

theorem selectionInv_reevaluate (o : Bool) (s : State) : SelectionInv (reevaluate o s) := by
  unfold reevaluate
  split
  · rename_i hsame
    exact hsame.symm
  · split
    · rename_i src hsrc
      exact hsrc.symm
    · rename_i hnone
      have hunselected : SelectionInv { s with timing := { s.timing with selected := none } } := hnone.symm
      cases o with
      | true => exact hunselected.completeCommit.agrees (by simp) (by simp)
      | false =>
        have hclosed : SelectionInv (closeForSilence { s with timing := { s.timing with selected := none } }) :=
          hunselected.agrees (by simp) (by simp)
        exact hclosed.completeCommit.agrees (by simp) (by simp)

/-- Restarting the timer of an ALIVE source moves no selection. -/
theorem selectionOf_restarted {p : PerSource SourceState} {src : Source} (h : p.get src ≠ .silent) (timeout : Nat) :
    selectionOf (p.set src (.alive timeout)) = selectionOf p := by
  obtain ⟨a, b⟩ := p
  cases src with
  | a =>
    cases a with
    | silent => exact absurd rfl h
    | alive t => rfl
  | b =>
    cases b with
    | silent => exact absurd rfl h
    | alive t => cases a <;> rfl

theorem SelectionInv.markArrives (h : SelectionInv s) (src : Source) : SelectionInv (markArrives src s) := by
  unfold Machine.markArrives
  split
  · exact selectionInv_reevaluate false _
  · rename_i halive
    exact h.trans (selectionOf_restarted halive _).symm

theorem selectionInv_kept : SourcesKeep SelectionInv where
  agrees h hsources hselected _ _ := h.agrees hsources hselected
  swapped _ := selectionInv_performSwap _
  silenced _ o _ := selectionInv_reevaluate o _
  arrives _ h := h.markArrives _
  reset _ _ _ := rfl

/-! ### Sources without an ident (R1) -/

/-- A swap makes the sources with a changed ident SILENT (R4). -/
theorem performSwap_sources (s : State) :
    (performSwap s).timing.sources =
      { a := if s.tables.active.identA = s.tables.staged.identA then s.timing.sources.a else .silent
        b := if s.tables.active.identB = s.tables.staged.identB then s.timing.sources.b else .silent } := by
  simp [performSwap, swapTiming, copyStaged]

theorem SourcesInv.performSwap (h : SourcesInv s) : SourcesInv (performSwap s) := by
  obtain ⟨-, hident⟩ := h
  rw [SourcesInv, performSwap_sources, performSwap_tables]
  refine ⟨fun hinvalid => by simp [Tables.swapped] at hinvalid, fun hzero => ?_⟩
  have hzero : s.tables.staged.identB = 0 := hzero
  dsimp only
  split
  · rename_i hsame
    exact hident (hsame.trans hzero)
  · rfl

theorem SourcesInv.completeCommit (h : SourcesInv s) : SourcesInv (completeCommit s) := by
  unfold Machine.completeCommit
  split
  · simpa [SourcesInv] using h.performSwap
  · exact h

/-- A re-evaluation changes the source states by a swap at most. -/
theorem SourcesInv.reevaluate (h : SourcesInv s) (o : Bool) : SourcesInv (reevaluate o s) := by
  unfold Machine.reevaluate
  split
  · exact h
  · split
    · exact h
    · have hunselected : SourcesInv { s with timing := { s.timing with selected := none } } := h
      cases o with
      | true => simpa [SourcesInv] using hunselected.completeCommit
      | false =>
        have hclosed : SourcesInv (closeForSilence { s with timing := { s.timing with selected := none } }) := by
          simpa [SourcesInv] using h
        simpa [SourcesInv] using hclosed.completeCommit

theorem SourcesInv.silenced (h : SourcesInv s) (src : Source) :
    SourcesInv (s.setSources (s.timing.sources.set src .silent)) := by
  obtain ⟨hinvalid, hident⟩ := h
  cases src with
  | a => exact ⟨fun hv => by simp [PerSource.set, hinvalid hv], hident⟩
  | b => exact ⟨fun hv => by simp [PerSource.set, hinvalid hv], fun _ => rfl⟩

/-- A mark belongs to B only where ACTIVE gives B an ident (R1). -/
theorem markSource_some {t : Tables} {ident : Nat} {src : Source} (h : markSource t ident = some src) :
    t.activeValid = true ∧ (src = .b → t.active.identB ≠ 0) := by
  unfold markSource at h
  split_ifs at h with hinvalid ha hb
  · cases h
    exact ⟨by simpa using hinvalid, by simp⟩
  · exact ⟨by simpa using hinvalid, fun _ => hb.1⟩

theorem SourcesInv.arrives {ident : Nat} {src : Source} (h : SourcesInv s)
    (hsrc : markSource s.tables ident = some src) : SourcesInv (markArrives src s) := by
  obtain ⟨-, hident⟩ := h
  obtain ⟨hvalid, hb⟩ := markSource_some hsrc
  have hrestarted : SourcesInv (restartTimer src s) := by
    refine ⟨fun hinvalid => ?_, fun hzero => ?_⟩
    · rw [restartTimer_tables, hvalid] at hinvalid
      cases hinvalid
    · cases src with
      | a => exact hident hzero
      | b => exact absurd hzero (hb rfl)
  unfold Machine.markArrives
  split
  · exact hrestarted.reevaluate false
  · exact hrestarted

theorem sourcesInv_kept : SourcesKeep SourcesInv where
  agrees h hsources _ hactive hvalid := by
    simpa only [SourcesInv, hsources, hactive, hvalid] using h
  swapped h := h.performSwap
  silenced src o h := (h.silenced src).reevaluate o
  arrives hsrc h := h.arrives hsrc
  reset _ _ _ := ⟨fun _ => rfl, fun _ => rfl⟩

end

/-- Settles O58: both are invariants of Cycle Timing and ACTIVE. -/
theorem stepsKeepTheSelection : Obligations.StepsKeepTheSelection :=
  ⟨fun _ _ h hstep => selectionInv_kept.events.step trivial h hstep,
    fun _ _ h hstep => sourcesInv_kept.events.step trivial h hstep⟩

end Sys2Proof.Machine

/-! Requests that wait and monitor tests (chapters 8 and 11): every step keeps a waiting request with its owner. -/

namespace Sys2Proof.Machine

/-! ### What operations do to a test and its request -/

theorem abortTest_executing (c : Corner) (s : State) :
    (abortTest c s).mgmt.executing = if (s.monitorOf c).test.isSome then none else s.mgmt.executing := by
  cases h : (s.monitorOf c).test with
  | none => simp [abortTest_none h]
  | some x => simp [abortTest, h]

theorem toWait_executing (c : Corner) (i : Nat) (s : State) :
    (toWait c i s).mgmt.executing = if (s.monitorOf c).test.isSome then none else s.mgmt.executing := by
  simp [toWait, abortTest_executing]

theorem toBoost_executing (c : Corner) (i : Nat) (s : State) :
    (toBoost c i s).mgmt.executing = if (s.monitorOf c).test.isSome then none else s.mgmt.executing := by
  simp [toBoost, abortTest_executing]

theorem toOff_executing (c : Corner) (s : State) :
    (toOff c s).mgmt.executing = if (s.monitorOf c).test.isSome then none else s.mgmt.executing := by
  simp [toOff, abortTest_executing]

theorem test_toBoost (c d : Corner) (i : Nat) (s : State) :
    ((toBoost c i s).monitorOf d).test = if d = c then none else (s.monitorOf d).test := by
  rw [monitorOf_toBoost]
  by_cases hd : d = c
  · subst hd
    cases h : (s.monitorOf d).test <;> simp [h]
  · simp [hd]

theorem test_toWait (c d : Corner) (i : Nat) (s : State) :
    ((toWait c i s).monitorOf d).test = if d = c then none else (s.monitorOf d).test := by
  rw [monitorOf_toWait]
  split <;> rfl

theorem test_toOff (c d : Corner) (s : State) :
    ((toOff c s).monitorOf d).test = if d = c then none else (s.monitorOf d).test := by
  rw [monitorOf_toOff]
  split <;> rfl

@[simp] theorem test_retarget (c d : Corner) (i : Nat) (s : State) :
    ((retarget c i s).monitorOf d).test = (s.monitorOf d).test := by
  rw [monitorOf_retarget]
  split
  · rename_i h
    rw [h.1]
  · rfl

@[simp] theorem state_retarget (c d : Corner) (i : Nat) (s : State) :
    ((retarget c i s).corner d).state = (s.corner d).state := by
  rw [corner_retarget]
  split
  · rename_i h
    rw [h]
  · rfl

section
variable {s : State} {r : Request} {rest : List Request} {code : BitVec 7} (h : AtExecution s r rest code)
include h

theorem AtExecution.idle : (leaveQueue s rest).mgmt.executing = none := by
  obtain ⟨-, hidle, -, -⟩ := h
  exact hidle

theorem AtExecution.command : r.command = code := by
  obtain ⟨-, -, -, hcode⟩ := h
  exact hcode

end

@[simp] theorem setFlagIf_requests (b : Bool) (f : Flag) (s : State) :
    (setFlagIf b f s).mgmt.executing = s.mgmt.executing ∧ (setFlagIf b f s).mgmt.queue = s.mgmt.queue ∧
      (setFlagIf b f s).mgmt.captures = s.mgmt.captures := by
  cases b <;> exact ⟨rfl, rfl, rfl⟩

/-! ### The law of waiting requests (R136, R138, R178) -/

section
variable {s t : State}

/-- Nothing that the law speaks of has changed, but for corners that stay in HOLD. -/
theorem RequestInv.stays (h : RequestInv s)
    (hstate : ∀ c, (s.monitorOf c).test.isSome = true → (s.corner c).state = .hold → (t.corner c).state = .hold)
    (htest : ∀ c, (t.monitorOf c).test.isSome = (s.monitorOf c).test.isSome)
    (hexecuting : t.mgmt.executing = s.mgmt.executing := by simp)
    (hcommit : t.tables.commitPending = s.tables.commitPending := by simp)
    (hprogramme : t.engine.pendingProgramme = s.engine.pendingProgramme := by simp) : RequestInv t := by
  obtain ⟨hhold, howner⟩ := h
  have hnone : NoTest t ↔ NoTest s := by
    simp only [NoTest, ← Option.not_isSome_iff_eq_none, htest]
  refine ⟨fun c hc => ?_, ?_⟩
  · rw [htest] at hc
    exact hstate c hc (hhold c hc)
  · simpa only [hexecuting, hcommit, hprogramme, hnone, htest] using howner

theorem RequestInv.of_agree (h : RequestInv s) (hmonitor : t.monitor = s.monitor := by simp)
    (hdrive : t.drive.corners = s.drive.corners := by simp)
    (hexecuting : t.mgmt.executing = s.mgmt.executing := by simp)
    (hcommit : t.tables.commitPending = s.tables.commitPending := by simp)
    (hprogramme : t.engine.pendingProgramme = s.engine.pendingProgramme := by simp) : RequestInv t := by
  refine h.stays (fun c _ hc => ?_) (fun c => ?_) hexecuting hcommit hprogramme
  · rwa [State.corner, hdrive]
  · rw [monitorOf_of_monitor hmonitor]

/-- The test at a corner, if one runs there, has ended with its request. -/
theorem RequestInv.ended (h : RequestInv s) (c : Corner)
    (hstate : ∀ d, d ≠ c → (t.corner d).state = (s.corner d).state)
    (htest : ∀ d, (t.monitorOf d).test = if d = c then none else (s.monitorOf d).test)
    (hexecuting : t.mgmt.executing = if (s.monitorOf c).test.isSome then none else s.mgmt.executing)
    (hcommit : t.tables.commitPending = s.tables.commitPending := by simp)
    (hprogramme : t.engine.pendingProgramme = s.engine.pendingProgramme := by simp) : RequestInv t := by
  obtain ⟨hhold, howner⟩ := id h
  cases hc : (s.monitorOf c).test with
  | none =>
    have hsame (d : Corner) : (t.monitorOf d).test = (s.monitorOf d).test := by
      rw [htest]
      split
      · rename_i hd
        rw [hd, hc]
      · rfl
    refine h.stays (fun d hd hstate' => ?_) (fun d => by rw [hsame]) (by simpa [hc] using hexecuting) hcommit
      hprogramme
    rw [hstate d (fun e => by simp [e, hc] at hd)]
    exact hstate'
  | some x =>
    have hidle : t.mgmt.executing = none := by simpa [hc] using hexecuting
    have hsome : (s.monitorOf c).test.isSome = true := by rw [hc]; rfl
    have hnotNone : ¬ NoTest s := fun hnone => by simp [hnone c] at hc
    cases hx : s.mgmt.executing with
    | none =>
      rw [hx] at howner
      exact absurd howner.2.2 hnotNone
    | some r =>
      rw [hx] at howner
      obtain ⟨-, -, -, hnone⟩ | ⟨-, -, -, hnone⟩ | ⟨-, hcommit', hprogramme', e, he⟩ := howner
      · exact absurd hnone hnotNone
      · exact absurd hnone hnotNone
      · have hnone : NoTest t := fun d => by
          rw [htest]
          split
          · rfl
          · rename_i hd
            rw [← Option.not_isSome_iff_eq_none, he]
            exact fun hde => hd (hde.trans ((he c).mp hsome).symm)
        refine ⟨fun d hd => by simp [hnone d] at hd, ?_⟩
        rw [hidle]
        exact ⟨hcommit.trans hcommit', hprogramme.trans hprogramme', hnone⟩

/-- With no request waiting and none executing the law holds. -/
theorem RequestInv.of_idle (hidle : t.mgmt.executing = none) (hcommit : t.tables.commitPending = false)
    (hprogramme : t.engine.pendingProgramme = none) (hnone : NoTest t) : RequestInv t := by
  refine ⟨fun c hc => by simp [hnone c] at hc, ?_⟩
  rw [hidle]
  exact ⟨hcommit, hprogramme, hnone⟩

theorem RequestInv.idle (h : RequestInv s) (hidle : s.mgmt.executing = none) :
    s.tables.commitPending = false ∧ s.engine.pendingProgramme = none ∧ NoTest s := by
  obtain ⟨-, howner⟩ := h
  rwa [hidle] at howner

theorem RequestInv.foldl {α : Type} {f : State → α → State} (hf : ∀ s a, RequestInv s → RequestInv (f s a))
    (l : List α) (h : RequestInv s) : RequestInv (l.foldl f s) := by
  induction l generalizing s with
  | nil => exact h
  | cons a as ih => exact ih (hf s a h)

/-! ### The Drive Unit and the Drive Gate -/

theorem RequestInv.toHold (h : RequestInv s) (c : Corner) (i : Nat) : RequestInv (toHold c i s) := by
  refine h.stays (fun d _ hd => ?_) (fun d => by rw [test_toHold])
  rw [corner_toHold]
  split
  · rfl
  · exact hd

theorem RequestInv.toWait (h : RequestInv s) (c : Corner) (i : Nat) : RequestInv (toWait c i s) :=
  h.ended c (fun d hd => by rw [corner_toWait, if_neg hd]) (fun d => test_toWait c d i s) (toWait_executing c i s)

theorem RequestInv.toBoost (h : RequestInv s) (c : Corner) (i : Nat) : RequestInv (toBoost c i s) :=
  h.ended c (fun d hd => by rw [corner_toBoost, if_neg hd]) (fun d => test_toBoost c d i s) (toBoost_executing c i s)

theorem RequestInv.toOff (h : RequestInv s) (c : Corner) : RequestInv (toOff c s) :=
  h.ended c (fun d hd => by rw [corner_toOff, if_neg hd]) (fun d => test_toOff c d s) (toOff_executing c s)

theorem RequestInv.retarget (h : RequestInv s) (c : Corner) (i : Nat) : RequestInv (retarget c i s) :=
  h.stays (fun d _ hd => by rwa [state_retarget]) (fun d => by rw [test_retarget])

theorem RequestInv.grantHead (h : RequestInv s) : RequestInv (grantHead s) := by
  unfold Machine.grantHead
  split
  · exact h
  · split
    · exact RequestInv.toBoost h.of_agree _ _
    · exact h

theorem RequestInv.endBoost (h : RequestInv s) (c : Corner) (i : Nat) : RequestInv (endBoost c i s) :=
  RequestInv.grantHead (h.toHold c i).of_agree

theorem RequestInv.requestBoost (h : RequestInv s) (c : Corner) (i : Nat) : RequestInv (requestBoost c i s) := by
  unfold Machine.requestBoost
  split
  · exact h.toBoost c i
  · exact h.toWait c i

theorem RequestInv.updateTarget (h : RequestInv s) (c : Corner) (i : Nat) : RequestInv (updateTarget c i s) := by
  unfold Machine.updateTarget
  dsimp only
  split
  · exact h
  · exact h
  · split
    · exact h.requestBoost c _
    · exact h.retarget c _
  · split
    · exact h.retarget c _
    · exact RequestInv.toHold h.of_agree c _
  · rename_i timeout hboost
    split
    · refine h.stays (fun d _ hhold => ?_) (fun d => by simp)
      rw [corner_enter]
      split
      · rename_i hd
        rw [hd, hboost] at hhold
        cases hhold
      · exact hhold
    · exact h.endBoost c _

theorem RequestInv.deliver (h : RequestInv s) (b : Bank) (ts : PerCorner Nat) : RequestInv (deliver b ts s) := by
  have hcancelled : RequestInv (cancelStaggered s) := h
  unfold Machine.deliver
  dsimp only
  split
  · exact hcancelled.updateTarget .fl _
  · unfold deliverTogether
    exact RequestInv.foldl (fun s c h => h.requestBoost c _) _
      (RequestInv.foldl (fun s c h => h.updateTarget c _) _
        (RequestInv.foldl (fun s c h => h.updateTarget c _) _ hcancelled))

theorem RequestInv.closeGate (h : RequestInv s) (x : CloseCause) : RequestInv (closeGate x s) := by
  unfold Machine.closeGate
  split
  · have hoff : RequestInv (allDrivenOff { s with gate := { isOpen := false, cause := x } }) := by
      refine RequestInv.foldl (fun s c h => ?_) corners (h.of_agree rfl rfl rfl rfl rfl)
      split
      · exact h.toOff c
      · exact h
    exact hoff.of_agree rfl rfl rfl rfl rfl
  · exact h

theorem RequestInv.openGate (h : RequestInv s) : RequestInv (openGate s) := by
  refine RequestInv.foldl (fun s c h => ?_) corners (h.of_agree rfl rfl rfl rfl rfl)
  split
  · exact h.toHold c _
  · exact h

/-- A completion leaves the programmes alone. -/
theorem finishCycle_programme (y : Cycle) (e : Engine) :
    (finishCycle y e).programme = e.programme ∧ (finishCycle y e).pendingProgramme = e.pendingProgramme := by
  have hopen (d : Side) (vd : Int) (e : Engine) : (openEvent d vd e).programme = e.programme ∧
      (openEvent d vd e).pendingProgramme = e.pendingProgramme := by
    unfold openEvent
    dsimp only
    split <;> exact ⟨rfl, rfl⟩
  have hdetect (d : Side) (e : Engine) : (detectSide y d e).programme = e.programme ∧
      (detectSide y d e).pendingProgramme = e.pendingProgramme := by
    unfold detectSide
    dsimp only
    split
    · exact ⟨rfl, rfl⟩
    · split <;> split
      · exact hopen _ _ _
      all_goals exact ⟨rfl, rfl⟩
  have hpreview (e : Engine) : (stagePreview y e).programme = e.programme ∧
      (stagePreview y e).pendingProgramme = e.pendingProgramme := by
    unfold stagePreview
    dsimp only
    split
    · simp [hdetect, stageTake]
    · exact ⟨rfl, rfl⟩
  have hcompute : (computeCycle y e).programme = e.programme ∧
      (computeCycle y e).pendingProgramme = e.pendingProgramme := by
    simp [computeCycle, stageValve, stageForce, stageSchedule, hpreview, stageOdometer, stageMotion]
  unfold finishCycle
  dsimp only
  split <;> exact hcompute

theorem RequestInv.completed (h : RequestInv s) (y : Cycle) : RequestInv (stageDelivery y (writeResults y s)) := by
  have hwritten : RequestInv (writeResults y s) :=
    h.of_agree (by simp) (by simp) (by unfold writeResults setFlagIf; split <;> rfl) (by simp) (by simp [finishCycle_programme])
  have hdelivered : RequestInv (if y.hold then writeResults y s
      else Machine.deliver y.bank (targetsOf (writeResults y s).engine) (writeResults y s)) := by
    split
    · exact hwritten
    · exact hwritten.deliver _ _
  exact hdelivered.of_agree (by simp [stageDelivery]) (by simp [stageDelivery]) (by simp [stageDelivery])
    (by simp [stageDelivery]) (by simp [stageDelivery])

/-! ### Measurements and samples -/

theorem RequestInv.latchFault (h : RequestInv s) (c : Corner) (x : FaultCause) : RequestInv (latchFault c x s) := by
  unfold Machine.latchFault
  dsimp only
  split
  · refine h.stays (fun d _ hd => ?_) (fun d => rfl)
    rw [corner_setFlag, corner_setCorner]
    split
    · rename_i hdc
      exact hdc ▸ hd
    · exact hd
  · refine h.ended c (fun d hd => ?_) (fun d => ?_) ?_
    · simp [corner_enter, corner_setCorner, hd]
    · by_cases hd : d = c
      · subst hd
        cases ht : (s.monitorOf d).test <;> simp [monitorOf_startSettling, monitorOf_abortTest, ht]
      · simp [monitorOf_startSettling, monitorOf_abortTest, hd]
    · simp [abortTest_executing]

/-- Monitor items whose test runs on as it did. -/
theorem RequestInv.setMonitor (h : RequestInv s) (c : Corner) {m : MonitorRecord}
    (hm : m.test.isSome = (s.monitorOf c).test.isSome) : RequestInv (s.setMonitor c m) := by
  refine h.stays (fun d _ hd => hd) (fun d => ?_)
  rw [monitorOf_setMonitor]
  split
  · rename_i hd
    rw [hd, hm]
  · rfl

theorem RequestInv.judgeDriven (h : RequestInv s) (c : Corner) (m : Nat) : RequestInv (judgeDriven c m s) := by
  unfold Machine.judgeDriven
  dsimp only
  split
  · have hcounted : RequestInv (s.setMonitor c { s.monitorOf c with deviation := (s.monitorOf c).deviation + 1 }) :=
      h.setMonitor c rfl
    split
    · exact hcounted.latchFault c _
    · exact hcounted
  · exact h.setMonitor c rfl

theorem RequestInv.judgeOff (h : RequestInv s) (c : Corner) (m : Nat) : RequestInv (judgeOff c m s) := by
  unfold Machine.judgeOff
  dsimp only
  split
  · have hcounted : RequestInv (s.setMonitor c { s.monitorOf c with stuck := (s.monitorOf c).stuck + 1 }) :=
      h.setMonitor c rfl
    split
    · have hcleared : RequestInv
          ((s.setMonitor c { s.monitorOf c with stuck := (s.monitorOf c).stuck + 1 }).setMonitor c
            { (s.setMonitor c { s.monitorOf c with stuck := (s.monitorOf c).stuck + 1 }).monitorOf c with stuck := 0 }) :=
        hcounted.setMonitor c rfl
      exact hcleared.latchFault c _
    · exact hcounted
  · exact h.setMonitor c rfl

/-- The monitor's items of a corner at the end of its test (R137). -/
def testOver (c : Corner) (s : State) : State := s.setMonitor c { s.monitorOf c with test := none, deviation := 0 }

/-- The test at a corner ends and its request is answered. -/
theorem RequestInv.endTest (h : RequestInv s) {c : Corner} {x : MonitorTest} (hx : (s.monitorOf c).test = some x)
    (r : Result) (ws : List Word) : RequestInv (endExecuting r ws (testOver c s)) := by
  refine h.ended c (fun d _ => ?_) (fun d => ?_) (by simp [hx]) (by simp [testOver]) (by simp [testOver])
  · rw [corner_of_drive (s := s) (by simp [testOver])]
  · rw [monitorOf_of_monitor (s := testOver c s) (by simp), testOver, monitorOf_setMonitor]
    split <;> rfl

theorem RequestInv.flagged (h : RequestInv s) (f : Flag) : RequestInv (setFlag f s) := h

/-- A test that ends is answered, and one that goes on stays. -/
theorem RequestInv.judgeTest (h : RequestInv s) (c : Corner) (m : Nat) {x : MonitorTest}
    (hx : (s.monitorOf c).test = some x) : RequestInv (judgeTest c m x s) := by
  unfold Machine.judgeTest
  dsimp only
  generalize (if deviates s c _ = true then (s.monitorOf c).deviation + 1 else 0) = n
  split_ifs
  · exact h.endTest hx _ _
  · exact (h.flagged .monitorFailed).endTest hx _ _
  · exact h.setMonitor c (by rw [hx]; rfl)

theorem RequestInv.judge (h : RequestInv s) (c : Corner) (m : Nat) : RequestInv (judge c m s) := by
  unfold Machine.judge
  split
  · exact h
  · split
    · exact h.setMonitor c rfl
    · split
      · rename_i x _ hx
        exact h.judgeTest c m hx
      · exact h.judgeDriven c m
      · exact h.judgeDriven c m
      · exact h.judgeOff c m
      · exact h.judgeOff c m
      · exact h

theorem RequestInv.actOnMeasurement (h : RequestInv s) (c : Corner) (m : Nat) :
    RequestInv (actOnMeasurement c m s) := by
  unfold Machine.actOnMeasurement
  split
  · split
    · exact h.endBoost c _
    · exact h
  all_goals exact h.judge c m

@[simp] theorem state_startPeriod (s : State) (c : Corner) : (startPeriod s c).state = (s.corner c).state := rfl

@[simp] theorem state_runPeriod (c d : Corner) (s : State) : ((runPeriod c s).corner d).state = (s.corner d).state := by
  rw [runPeriod_corner]
  split <;> rfl

@[simp] theorem state_endPeriod (c d : Corner) (s : State) : ((endPeriod c s).corner d).state = (s.corner d).state := by
  rw [endPeriod_corner]
  split
  · rfl
  · split
    · rename_i hd
      rw [hd]
    · rfl

@[simp] theorem state_keepMeasurement (c d : Corner) (m : Nat) (s : State) :
    ((keepMeasurement c m s).corner d).state = (s.corner d).state := by
  unfold keepMeasurement
  rw [corner_setCorner]
  split
  · rename_i hd
    rw [hd]
  · rfl

theorem RequestInv.measured (h : RequestInv s) (c : Corner) (m : Nat) :
    RequestInv (endPeriod c (Machine.actOnMeasurement c m (keepMeasurement c m (runPeriod c s)))) := by
  have hkept : RequestInv (keepMeasurement c m (runPeriod c s)) :=
    h.stays (fun d _ hd => by simpa using hd) (fun d => by rw [monitorOf_of_monitor (s := s) (by simp)])
  refine (hkept.actOnMeasurement c m).stays (fun d _ hd => by simpa using hd) fun d => ?_
  rw [monitorOf_of_monitor (s := Machine.actOnMeasurement c m _) (t := endPeriod c _) (endPeriod_frame c _).2.2.2.2.2.2.2.1]

theorem RequestInv.judgeSupply (h : RequestInv s) : RequestInv (judgeSupply s) := by
  have hlow : RequestInv (judgeLow s) := h.of_agree
  unfold Machine.judgeSupply judgeCut
  split
  · exact (hlow.flagged .supplyCut).closeGate _
  · exact hlow

theorem state_reformed (s : State) (c : Corner) : (reformed s c).state = (s.corner c).state := by
  unfold reformed
  split <;> rfl

theorem RequestInv.actOnSample (h : RequestInv s) : RequestInv (actOnSample s) := by
  have hjudged : RequestInv (if s.tables.activeValid then Machine.judgeSupply s else s) := by
    split
    · exact h.judgeSupply
    · exact h
  unfold Machine.actOnSample
  dsimp only
  generalize (if s.tables.activeValid = true then Machine.judgeSupply s else s) = u at hjudged ⊢
  split
  · refine hjudged.stays (fun d _ hd => ?_) (fun d => by rw [monitorOf_of_monitor (s := u) (by simp)])
    rw [corner_reformDuties, state_reformed]
    exact hd
  · exact hjudged

/-! ### Sources, swaps and marks -/

theorem RequestInv.applyProgramme (h : RequestInv s) : RequestInv (applyProgramme s) := by
  unfold Machine.applyProgramme
  split
  · exact h
  · rename_i g hg
    obtain ⟨hhold, howner⟩ := h
    cases hx : s.mgmt.executing with
    | none =>
      rw [hx] at howner
      simp [howner.2.1] at hg
    | some r =>
      rw [hx] at howner
      obtain ⟨-, -, hprogramme, -⟩ | ⟨-, hcommit, -, hnone⟩ | ⟨-, -, hprogramme, -⟩ := howner
      · simp [hprogramme] at hg
      · exact RequestInv.of_idle (by simp) (by simpa using hcommit) (by simp)
          (NoTest.of_monitor hnone (by simp))
      · simp [hprogramme] at hg

theorem RequestInv.closeForSilence (h : RequestInv s) : RequestInv (closeForSilence s) := h.closeGate _

theorem RequestInv.selectSource (h : RequestInv s) (src : Source) : RequestInv (selectSource src s) := h

/-- What a swap keeps where no test runs and no programme is pending: nothing is answered (R157). -/
structure SwapQuiet (s t : State) : Prop where
  noTest : NoTest t
  programme : t.engine.pendingProgramme = none
  executing : t.mgmt.executing = s.mgmt.executing

theorem SwapQuiet.trans {s t u : State} (h : SwapQuiet s t) (g : SwapQuiet t u) : SwapQuiet s u :=
  ⟨g.noTest, g.programme, g.executing.trans h.executing⟩

theorem noTest_closeGate (hnone : NoTest s) (x : CloseCause) : NoTest (closeGate x s) := fun d => by
  cases hopen : s.gate.isOpen with
  | false => rw [closeGate_closed x hopen, hnone d]
  | true =>
    have hboth := both_closeGate x hopen d
    simp only [State.both] at hboth
    split at hboth
    · rw [(Prod.mk.inj hboth).2]
    · rw [(Prod.mk.inj hboth).2, hnone d]

theorem closeGate_quiet (hnone : NoTest s) (hprogramme : s.engine.pendingProgramme = none) (x : CloseCause) :
    SwapQuiet s (closeGate x s) :=
  ⟨noTest_closeGate hnone x, by simpa using hprogramme, congrArg Mgmt.executing (closeGate_of_noTest x hnone).2⟩

theorem reselect_quiet (hnone : NoTest s) (hprogramme : s.engine.pendingProgramme = none) :
    SwapQuiet s (reselect s) := by
  unfold reselect
  split
  · exact ⟨hnone, hprogramme, rfl⟩
  · split
    · exact ⟨hnone, hprogramme, rfl⟩
    · have hclosed := closeGate_quiet (s := { s with timing := { s.timing with selected := none } }) hnone hprogramme
        .marksSilent
      have happlied : loseSource s =
          Machine.closeForSilence { s with timing := { s.timing with selected := none } } := by
        unfold loseSource Machine.applyProgramme
        rw [show (Machine.closeForSilence { s with timing := { s.timing with selected := none } }).engine.pendingProgramme
          = none by simpa using hprogramme]
      rw [happlied]
      exact ⟨hclosed.noTest, hclosed.programme, hclosed.executing⟩

theorem swapSupply_quiet (hnone : NoTest s) (hprogramme : s.engine.pendingProgramme = none) (o : Tables) :
    SwapQuiet s (swapSupply o s) := by
  unfold swapSupply
  split
  · exact ⟨hnone, hprogramme, rfl⟩
  · unfold Machine.judgeSupply judgeCut
    have hlow : NoTest (judgeLow s) := NoTest.of_monitor hnone (by simp)
    split
    · have hclosed := closeGate_quiet (s := setFlag .supplyCut (judgeLow s)) hlow (by simpa using hprogramme) .supplyCut
      exact ⟨hclosed.noTest, hclosed.programme, hclosed.executing.trans (by simp)⟩
    · exact ⟨hlow, by simpa using hprogramme, by simp⟩

theorem test_swapCorner (c d : Corner) (s : State) :
    ((swapCorner c s).monitorOf d).test = (s.monitorOf d).test := by
  unfold swapCorner
  dsimp only
  split
  · rw [test_retarget]
  · rfl

theorem test_swapDrive (o : Tables) (s : State) (d : Corner) :
    ((swapDrive o s).monitorOf d).test = (s.monitorOf d).test := by
  unfold swapDrive
  split
  · rfl
  · exact foldl_keeps (fun t : State => (t.monitorOf d).test) _ (fun t c => test_swapCorner c d t) _ _

theorem test_swapMonitor (o : Tables) (s : State) (d : Corner) :
    ((swapMonitor o s).monitorOf d).test = (s.monitorOf d).test := by
  unfold swapMonitor
  split
  · simp [State.monitorOf]
  · rfl

theorem performSwap_quiet (hnone : NoTest s) (hprogramme : s.engine.pendingProgramme = none) :
    SwapQuiet s (performSwap s) := by
  have htiming : SwapQuiet s (swapTiming s.tables (swapCapture s.tables (copyStaged s))) := by
    have hreselected := reselect_quiet (s := (swapCapture s.tables (copyStaged s)).setSources
      { a := if s.tables.active.identA = (swapCapture s.tables (copyStaged s)).tables.active.identA then
          (swapCapture s.tables (copyStaged s)).timing.sources.a else .silent
        b := if s.tables.active.identB = (swapCapture s.tables (copyStaged s)).tables.active.identB then
          (swapCapture s.tables (copyStaged s)).timing.sources.b else .silent })
      (NoTest.of_monitor hnone (by simp)) (by simp [hprogramme])
    exact ⟨hreselected.noTest, hreselected.programme, hreselected.executing.trans (by simp)⟩
  unfold performSwap
  dsimp only
  generalize swapTiming s.tables (swapCapture s.tables (copyStaged s)) = u at htiming ⊢
  have hpreview : SwapQuiet u (swapPreview s.tables u) := by
    refine ⟨NoTest.of_monitor htiming.noTest (by simp), ?_, by simp⟩
    unfold swapPreview
    split
    · exact htiming.programme
    · split <;> exact htiming.programme
  have hdrive : SwapQuiet u (swapDrive s.tables (swapPreview s.tables u)) :=
    ⟨fun d => (test_swapDrive _ _ d).trans (hpreview.noTest d), by simpa using hpreview.programme,
      by simp⟩
  have hsupply := hdrive.trans (swapSupply_quiet hdrive.noTest hdrive.programme s.tables)
  have hmonitor : SwapQuiet u (swapMonitor s.tables (swapSupply s.tables (swapDrive s.tables (swapPreview s.tables u)))) :=
    ⟨fun d => (test_swapMonitor _ _ d).trans (hsupply.noTest d), by simpa using hsupply.programme,
      by simpa using hsupply.executing⟩
  exact htiming.trans hmonitor

theorem RequestInv.completeCommit (h : RequestInv s) : RequestInv (completeCommit s) := by
  unfold Machine.completeCommit
  split
  · rename_i hcommit
    obtain ⟨hhold, howner⟩ := h
    cases hx : s.mgmt.executing with
    | none =>
      rw [hx] at howner
      simp [howner.1] at hcommit
    | some r =>
      rw [hx] at howner
      obtain ⟨-, -, hprogramme, hnone⟩ | ⟨-, hcommit', -, -⟩ | ⟨-, hcommit', -, -⟩ := howner
      · have hquiet := performSwap_quiet hnone hprogramme
        exact RequestInv.of_idle (by simp) (by simp [Tables.swapped]) (by simpa using hquiet.programme)
          (NoTest.of_monitor hquiet.noTest (by simp))
      · simp [hcommit'] at hcommit
      · simp [hcommit'] at hcommit
  · exact h

theorem RequestInv.reevaluate (h : RequestInv s) (o : Bool) : RequestInv (reevaluate o s) := by
  have hunselected : RequestInv { s with timing := { s.timing with selected := none } } := h
  unfold Machine.reevaluate
  split
  · exact h
  · split
    · exact h
    · cases o with
      | true => exact hunselected.completeCommit.closeForSilence.applyProgramme
      | false => exact hunselected.closeForSilence.completeCommit.applyProgramme

theorem RequestInv.startCycle (h : RequestInv s) (k : Nat) (seq : Word) (n : Count) :
    RequestInv (startCycle k seq n s) := by
  have happlied := h.completeCommit.applyProgramme
  unfold Machine.startCycle
  dsimp only
  generalize anyStale _ = b
  cases b <;> exact happlied.of_agree

theorem RequestInv.markArrives (h : RequestInv s) (src : Source) : RequestInv (markArrives src s) := by
  have hrestarted : RequestInv (restartTimer src s) := h
  unfold Machine.markArrives
  split
  · exact hrestarted.reevaluate false
  · exact hrestarted

theorem RequestInv.examineMark (h : RequestInv s) (p : Port) (seq : Word) : RequestInv (examineMark p seq s) := by
  unfold Machine.examineMark
  split
  · exact h.of_agree rfl rfl rfl rfl rfl
  · split
    · exact h.of_agree rfl rfl rfl rfl rfl
    · unfold serveMark
      exact RequestInv.startCycle h.of_agree _ _ _

theorem RequestInv.readMark (h : RequestInv s) (p : Port) (ident : Nat) (ws : List Word) :
    RequestInv (readMark p ident ws s) := by
  unfold Machine.readMark
  split
  · exact h
  · split
    · exact h.markArrives _
    · split
      · exact (h.markArrives _).examineMark p _
      · exact h.markArrives _

theorem RequestInv.handOver (h : RequestInv s) (p : Port) (ws : List Word) : RequestInv (handOver p ws s) := by
  unfold Machine.handOver
  dsimp only
  split_ifs
  · exact h.of_agree
  · exact h.readMark p _ _
  · exact h

theorem RequestInv.takeRequestFrame (h : RequestInv s) (p : Port) (ws : List Word) :
    RequestInv (takeRequestFrame p ws s) := by
  unfold Machine.takeRequestFrame
  split
  · exact h
  · dsimp only
    split_ifs
    · obtain ⟨-, hidle, -, htables, hengine⟩ := abortRequests_mgmt_and_owners (requestOf p _ _) h
      refine RequestInv.of_idle hidle (by rw [htables]) (by rw [hengine]) fun c => ?_
      rw [monitorOf_abortRequests _ h]
      split
      · rfl
      · rename_i hc
        exact Option.not_isSome_iff_eq_none.mp hc
    · exact h
    · exact h.of_agree

theorem RequestInv.receive (h : RequestInv s) (p : Port) (ws : List Word) (o : Bool) (x : Reception) :
    RequestInv (receive p ws o s x) := by
  cases x with
  | check => exact h
  | format => exact h
  | consumed => exact h.takeRequestFrame p _
  | full => exact (h.flagged .fullDrops).handOver p ws
  | accepted =>
    cases o with
    | true => exact (h.handOver p ws)
    | false => exact RequestInv.handOver (s := forward p ws s) h p ws

/-! ### Requests -/

/-- The oldest request leaves the queue: no owner waits. -/
theorem RequestInv.leaveQueue (h : RequestInv s) (rest : List Request) : RequestInv (leaveQueue s rest) := h

theorem RequestInv.answered (h : RequestInv s) (r : Request) (x : Result) (ws : List Word) :
    RequestInv (answer r x ws s) := h.of_agree

theorem RequestInv.of_commit (h : RequestInv s) (hidle : s.mgmt.executing = none) {r : Request}
    (hcode : r.command = codeCommit) : RequestInv (doCommit r s) := by
  obtain ⟨hcommit, hprogramme, hnone⟩ := h.idle hidle
  obtain ⟨x, ws, heq⟩ | ⟨-, ⟨-, heq⟩ | ⟨-, heq⟩⟩ := doCommit_cases r s <;> rw [heq]
  · exact h.answered r x ws
  · have hquiet := performSwap_quiet hnone hprogramme
    exact RequestInv.of_idle (by simp [hquiet.executing, hidle]) (by simp [Tables.swapped])
      (by simpa using hquiet.programme) (NoTest.of_monitor hquiet.noTest (by simp))
  · exact ⟨h.1, .inl ⟨hcode, rfl, hprogramme, hnone⟩⟩

theorem RequestInv.of_setProgramme (h : RequestInv s) (hidle : s.mgmt.executing = none) {r : Request}
    (hcode : r.command = codeSetProgramme) : RequestInv (doSetProgramme r s) := by
  obtain ⟨hcommit, hprogramme, hnone⟩ := h.idle hidle
  obtain ⟨x, g, heq⟩ | ⟨g, heq⟩ := doSetProgramme_cases r s <;> rw [heq]
  · exact h.of_agree
  · exact ⟨h.1, .inr (.inl ⟨hcode, hcommit, rfl, hnone⟩)⟩

theorem RequestInv.of_monitorTest (h : RequestInv s) (hidle : s.mgmt.executing = none) {r : Request}
    (hcode : r.command = codeMonitorTest) : RequestInv (doMonitorTest r s) := by
  obtain ⟨hcommit, hprogramme, hnone⟩ := h.idle hidle
  obtain ⟨x, ws, heq⟩ | ⟨c, d, hhold, -, heq⟩ := doMonitorTest_cases r s <;> rw [heq]
  · exact h.answered r x ws
  · have htest (e : Corner) : ((keepExecuting r (s.setMonitor c
        { s.monitorOf c with deviation := 0, test := some { direction := d, judged := 0 } })).monitorOf e).test.isSome
          = true ↔ e = c := by
      change ((s.setMonitor c _).monitorOf e).test.isSome = true ↔ e = c
      rw [monitorOf_setMonitor]
      by_cases he : e = c
      · simp [he]
      · simp [he, hnone e]
    exact ⟨fun e he => ((htest e).mp he) ▸ hhold, .inr (.inr ⟨hcode, hcommit, hprogramme, c, htest⟩)⟩

theorem RequestInv.of_enableDrive (h : RequestInv s) (r : Request) : RequestInv (doEnableDrive r s) := by
  obtain ⟨x, ws, heq⟩ | ⟨-, -, -, -, heq⟩ := doEnableDrive_cases r s <;> rw [heq]
  · exact h.answered r x ws
  · exact h.openGate.answered r _ _

theorem RequestInv.clearFault (h : RequestInv s) (c : Corner) : RequestInv (clearFault c s) := by
  have hcounts : RequestInv (clearCounts c s) := by
    refine h.stays (fun d _ hd => ?_) (fun d => by rw [test_clearCounts])
    rw [corner_clearCounts]
    split
    · rename_i hdc
      exact hdc ▸ hd
    · exact hd
  rw [clearFault_eq]
  split
  · split
    · exact hcounts.toHold c _
    · exact hcounts.toOff c
  · exact hcounts

theorem RequestInv.of_clearFaults (h : RequestInv s) (r : Request) : RequestInv (doClearFaults r s) := by
  obtain ⟨x, w, heq⟩ := doClearFaults_answers r s
  rw [heq]
  exact (RequestInv.foldl (fun s c h => h.clearFault c) (maskCorners w) h).answered r x []

theorem RequestInv.of_resetControl (h : RequestInv s) (hidle : s.mgmt.executing = none) (r : Request) :
    RequestInv (doResetControl r s) := by
  obtain ⟨hcommit, -, -⟩ := h.idle hidle
  obtain ⟨x, ws, heq⟩ | ⟨-, heq⟩ := doResetControl_cases r s <;> rw [heq]
  · exact h.answered r x ws
  · refine RequestInv.of_idle (by simp [resetControl, hidle]) (by simp [resetControl, hcommit])
      (by simp [resetControl, Engine.reset]) fun c => ?_
    rw [monitorOf_answer]
    simp [State.monitorOf, resetControl, MonitorRecord.reset]

theorem requestInv_of_reset {t : Tables} (ht : t.commitPending = false) (w : Word) (s : State) :
    RequestInv (resetBlocks t w s) :=
  RequestInv.of_idle rfl ht rfl fun c => by cases c <;> rfl

end

/-- Every event keeps the law: a test ends with its request, and a swap or a programme that waited is answered. -/
theorem requestInv_kept : EventsKeep (fun _ => True) RequestInv where
  dequeued _ _ h := ⟨trivial, h⟩
  received p ws _ _ o _ _ h := RequestInv.receive h.of_agree p ws o _
  transmitted _ _ h := h.of_agree
  silenced o _ _ h := RequestInv.reevaluate h.of_agree o
  completed _ _ h := h.completed _
  staggered _ _ h := RequestInv.updateTarget h.of_agree _ _
  boostExpired {s c _} _ _ h := by
    have hcounted : RequestInv (setFlag .boostTimeout (countTimeout c s)) := by
      refine h.stays (fun d _ hd => ?_) (fun d => rfl)
      rw [corner_setFlag, countTimeout, corner_setCorner]
      split
      · rename_i hdc
        exact hdc ▸ hd
      · exact hd
    exact hcounted.endBoost c _
  measured c m _ _ h := h.measured c m
  sampled _ _ h := RequestInv.actOnSample (h.of_agree rfl rfl rfl rfl rfl)
  nop _ _ h := h.of_agree
  load _ _ h := h.of_agree
  readTable _ _ h := h.of_agree
  commit hat _ h := RequestInv.of_commit (h.leaveQueue _) hat.idle hat.command
  discard _ _ h := h.of_agree
  setProgramme hat _ h := RequestInv.of_setProgramme (h.leaveQueue _) hat.idle hat.command
  enableDrive _ _ h := RequestInv.of_enableDrive (h.leaveQueue _) _
  disableDrive _ _ h := ((h.leaveQueue _).closeGate _).answered _ _ _
  monitorTest hat _ h := RequestInv.of_monitorTest (h.leaveQueue _) hat.idle hat.command
  clearFaults _ _ h := RequestInv.of_clearFaults (h.leaveQueue _) _
  clearFlags _ _ h := h.of_agree
  readState _ _ h := h.of_agree
  resetControl hat _ h := RequestInv.of_resetControl (h.leaveQueue _) hat.idle _
  unknown _ _ h := h.of_agree
  powerOn _ _ := requestInv_of_reset rfl _ _
  resetLine _ _ := requestInv_of_reset rfl _ _
  resetEnded _ _ h := h.stays (fun c _ hc => by cases c <;> exact hc) (fun _ => rfl) rfl rfl rfl

/-- Settles O59. -/
theorem stepsKeepWaitingRequestsWithTheirOwners : Obligations.StepsKeepWaitingRequestsWithTheirOwners :=
  fun _ _ h hstep => requestInv_kept.step trivial h hstep

end Sys2Proof.Machine

/-! The ranges of the live store, the estimates, the preview queue and the windows (chapters 2, 3 and 5), kept by every
step. -/

namespace Sys2Proof.Machine

/-! ### Ranges -/

/-- The clauses of `EngineInv` about the live store. -/
def LiveInRange (l : PerSignal Live) : Prop :=
  ∀ g, InRange g (l.get g).value ∧ (l.get g).age ≤ 255 ∧ (l.get g).clamps ≤ 65535

/-- The clause about an estimation record. -/
def EstimateInRange (c : Corner) (e : Estimation) : Prop :=
  InRange (travelOf c) e.xPrev ∧ -256000 ≤ e.vbQ ∧ e.vbQ ≤ 256000 ∧ -2000 ≤ e.lastVd ∧ e.lastVd ≤ 2000

/-- The clauses about the preview queue. -/
def QueueInRange (q : List PreviewEntry) : Prop := q.length ≤ 16 ∧ ∀ p ∈ q, 50 ≤ p.peak ∧ p.peak ≤ 2000

/-- The clause about the rear windows. -/
def WindowsInRange (ws : PerSide Window) : Prop := ∀ d, (ws.get d).remaining ≤ 255 ∧ (ws.get d).scale ≤ 256

/-- The clauses about the Control Engine. -/
def EngineInRange (e : Engine) : Prop :=
  (∀ y, e.computing = some y → ∀ g, InRange g (y.snapshot.get g).value) ∧
    (∀ c, EstimateInRange c (e.est.get c)) ∧ QueueInRange e.queue ∧ WindowsInRange e.windows

/-- `EngineInv` but for the banks. -/
def EstimatesInv (s : State) : Prop := LiveInRange s.capture.live ∧ EngineInRange s.engine

theorem engineInv_iff (s : State) : EngineInv s ↔ TablesInv s ∧ EstimatesInv s := by
  simp only [EngineInv, EstimatesInv, LiveInRange, EngineInRange, EstimateInRange, QueueInRange, WindowsInRange,
    and_assoc]

theorem clampInt_mem {lo hi : Int} (h : lo ≤ hi) (x : Int) : lo ≤ clampInt lo hi x ∧ clampInt lo hi x ≤ hi := by
  unfold clampInt
  split_ifs <;> omega

theorem inRange_clampSignal (g : Signal) (v : Int) : InRange g (clampSignal g v) := by
  cases g <;> exact clampInt_mem (by decide) v

/-! ### Validated preview parameters (R150) -/

theorem checkT5_of_validated {b : Bank} (h : b.validated) {o : Nat} (ho : o < 16) : checkT5 b.t5 o = true := by
  obtain ⟨-, hpasses⟩ := h
  rw [validate_eq_none_iff] at hpasses
  obtain ⟨-, -, -, -, -, ht5⟩ := hpasses
  exact ht5 o ho

theorem trigger_of_validated {b : Bank} (h : b.validated) : 50 ≤ b.trigger := by
  have hcheck := checkT5_of_validated h (o := 1) (by decide)
  simp only [checkT5, within, decide_eq_true_eq] at hcheck
  exact hcheck.1

theorem bands_of_validated {b : Bank} (h : b.validated) {i : Nat} (hi : i < 4) :
    b.bandScale i ≤ 256 ∧ b.bandHold i ≤ 255 := by
  have hscale := checkT5_of_validated h (o := 4 + 3 * i + 1) (by omega)
  have hhold := checkT5_of_validated h (o := 4 + 3 * i + 2) (by omega)
  interval_cases i <;> simp only [checkT5, within, decide_eq_true_eq] at hscale hhold <;>
    exact ⟨hscale.2, hhold.2⟩

/-! ### Stage 3 (R41 to R46) -/

theorem integrate_mem (leakShift : Nat) (inc : Int) (k : Nat) {vb : Int} (h : -256000 ≤ vb ∧ vb ≤ 256000) :
    -256000 ≤ integrate leakShift inc k vb ∧ integrate leakShift inc k vb ≤ 256000 := by
  induction k generalizing vb with
  | zero => exact h
  | succ k ih => exact ih (clampInt_mem (by decide) _)

theorem estimate_inRange {y : Cycle} (hy : ∀ g, InRange g (y.snapshot.get g).value) {c : Corner} {e : Estimation}
    (h : EstimateInRange c e) : EstimateInRange c (estimate y c e) := by
  obtain ⟨hx, hlow, hhigh, -⟩ := h
  refine ⟨?_, (integrate_mem _ _ _ ⟨hlow, hhigh⟩).1, (integrate_mem _ _ _ ⟨hlow, hhigh⟩).2, ?_⟩
  · simp only [estimate]
    split
    · exact hx
    · exact hy _
  · simp only [estimate]
    split_ifs
    · decide
    · exact clampInt_mem (by decide) _
    · decide

/-! ### Stages 5 and 6 (R76 to R87) -/

/-- A band is one of the four (R80). -/
theorem bandOf_lt {b : Bank} {peak i : Nat} (h : bandOf b peak = some i) : i < 4 := by
  have hbest : ∀ j, bandOf b peak = some j → j < 4 := by
    refine List.foldlRecOn (motive := fun best : Option Nat => ∀ j, best = some j → j < 4) [0, 1, 2, 3] _
      (by simp) fun best ih i hi => ?_
    have hi : i < 4 := by
      simp only [List.mem_cons, List.not_mem_nil, or_false] at hi
      omega
    intro j hj
    split at hj
    · split at hj
      · cases hj
        exact hi
      · split at hj
        · cases hj
          exact hi
        · cases hj
          exact ih _ rfl
    · exact ih j hj
  exact hbest i h

theorem applyEntry_inRange {b : Bank} (hb : b.validated) (p : PreviewEntry) {ws : PerSide Window}
    (h : WindowsInRange ws) : WindowsInRange (applyEntry b p ws) := by
  unfold applyEntry
  split
  · exact h
  · rename_i band hband
    obtain ⟨hscale, hhold⟩ := bands_of_validated hb (bandOf_lt hband)
    intro d
    by_cases hd : d = p.side
    · subst hd
      rw [PerSide.get_set_same]
      refine ⟨hhold, ?_⟩
      simp only [openWindow]
      split
      · exact hscale
      · exact (Nat.min_le_left _ _).trans (h _).2
    · rw [PerSide.get_set_ne _ _ hd]
      exact h d

theorem takeDue_inRange {b : Bank} (hb : b.validated) (odometer : Count) {q : List PreviewEntry} {ws : PerSide Window}
    (hq : QueueInRange q) (hws : WindowsInRange ws) :
    QueueInRange (takeDue b odometer q ws).1 ∧ WindowsInRange (takeDue b odometer q ws).2 := by
  induction q generalizing ws with
  | nil => exact ⟨hq, hws⟩
  | cons p ps ih =>
    obtain ⟨hlength, hpeaks⟩ := id hq
    unfold takeDue
    split
    · exact ih ⟨Nat.le_of_succ_le hlength, fun x hx => hpeaks x (List.mem_cons_of_mem _ hx)⟩
        (applyEntry_inRange hb p hws)
    · exact ⟨hq, hws⟩

theorem closeEntry_inRange {q : List PreviewEntry} (h : QueueInRange q) (d : Side) : QueueInRange (closeEntry d q) := by
  obtain ⟨hlength, hpeaks⟩ := h
  refine ⟨by simpa [closeEntry] using hlength, fun p hp => ?_⟩
  obtain ⟨x, hx, rfl⟩ := List.mem_map.mp hp
  split
  · exact hpeaks x hx
  · exact hpeaks x hx

theorem raisePeak_inRange {q : List PreviewEntry} (h : QueueInRange q) (d : Side) {v : Nat} (hv : v ≤ 2000) :
    QueueInRange (raisePeak d v q) := by
  obtain ⟨hlength, hpeaks⟩ := h
  refine ⟨by simpa [raisePeak] using hlength, fun p hp => ?_⟩
  obtain ⟨x, hx, rfl⟩ := List.mem_map.mp hp
  obtain ⟨hlow, hhigh⟩ := hpeaks x hx
  split
  · exact ⟨hlow.trans (Nat.le_max_left _ _), Nat.max_le.mpr ⟨hhigh, hv⟩⟩
  · exact ⟨hlow, hhigh⟩

theorem openEvent_inRange {e : Engine} (h : QueueInRange e.queue) (d : Side) {vd : Int} (hlow : 50 ≤ vd.natAbs)
    (hhigh : vd.natAbs ≤ 2000) : QueueInRange (openEvent d vd e).queue := by
  obtain ⟨hlength, hpeaks⟩ := id h
  unfold openEvent
  dsimp only
  split
  · rename_i hroom
    have hroom : e.queue.length < 16 := hroom
    refine ⟨by simpa using Nat.succ_le_of_lt hroom, fun p hp => ?_⟩
    rcases List.mem_append.mp hp with hp | hp
    · exact hpeaks p hp
    · rw [List.mem_singleton.mp hp]
      exact ⟨hlow, hhigh⟩
  · exact h

theorem detectSide_inRange {y : Cycle} (hb : y.bank.validated) {e : Engine} (d : Side) (hq : QueueInRange e.queue)
    (hest : ∀ c, EstimateInRange c (e.est.get c)) : QueueInRange (detectSide y d e).queue := by
  obtain ⟨-, -, -, hlow, hhigh⟩ := hest (frontOf d)
  have hspeed : (e.est.get (frontOf d)).lastVd.natAbs ≤ 2000 := by omega
  unfold detectSide
  dsimp only
  split
  · exact closeEntry_inRange hq d
  · split
    · split
      · rename_i htrigger
        exact openEvent_inRange hq d ((trigger_of_validated hb).trans htrigger) hspeed
      · exact hq
    · split
      · exact closeEntry_inRange hq d
      · exact raisePeak_inRange hq d hspeed

theorem stagePreview_inRange {y : Cycle} (hb : y.bank.validated) {e : Engine} (hq : QueueInRange e.queue)
    (hws : WindowsInRange e.windows) (hest : ∀ c, EstimateInRange c (e.est.get c)) :
    QueueInRange (stagePreview y e).queue ∧ WindowsInRange (stagePreview y e).windows := by
  obtain ⟨hqueue, hwindows⟩ := takeDue_inRange hb e.odometer hq hws
  rw [stagePreview_windows]
  unfold stagePreview
  dsimp only
  split
  · refine ⟨detectSide_inRange hb .right (detectSide_inRange hb .left hqueue hest) fun c => ?_, hwindows⟩
    rw [(detectSide_motion y .left _).1]
    exact hest c
  · exact ⟨⟨Nat.zero_le 16, by simp [Engine.flushPreview]⟩, hws⟩

theorem windowsInRange_countDown {ws : PerSide Window} (h : WindowsInRange ws) (k : Nat) :
    WindowsInRange ⟨countDown k ws.left, countDown k ws.right⟩ := by
  intro d
  obtain ⟨hremaining, hscale⟩ := h d
  cases d <;> exact ⟨(Nat.sub_le _ _).trans hremaining, hscale⟩

/-- A cycle on a validated bank leaves the engine in its ranges. -/
theorem finishCycle_inRange {y : Cycle} {e : Engine} (hb : y.bank.validated) (hy : e.computing = some y)
    (h : EngineInRange e) : EngineInRange (finishCycle y e) := by
  obtain ⟨hcycle, hest, hq, hws⟩ := h
  have hest' (c : Corner) : EstimateInRange c ((stageMotion y e).est.get c) := by
    simpa [stageMotion] using estimate_inRange (hcycle y hy) (hest c)
  obtain ⟨hqueue, hwindows⟩ := stagePreview_inRange (e := stageOdometer y (stageMotion y e)) hb hq hws hest'
  have hcomputed : QueueInRange (computeCycle y e).queue ∧ WindowsInRange (computeCycle y e).windows :=
    ⟨hqueue, windowsInRange_countDown hwindows y.k⟩
  refine ⟨by simp, fun c => ?_, ?_⟩
  · rw [finishCycle_est]
    exact estimate_inRange (hcycle y hy) (hest c)
  · unfold finishCycle
    dsimp only
    split
    · exact ⟨⟨Nat.zero_le 16, by simp [Engine.flushPreview]⟩, hcomputed.2⟩
    · exact hcomputed

/-! ### What keeps the ranges -/

/-- The engine's estimates and windows are as they were, and its queue too, or emptied. -/
def EngineCalm (e f : Engine) : Prop := f.est = e.est ∧ f.windows = e.windows ∧ (f.queue = e.queue ∨ f.queue = [])

theorem EngineCalm.refl (e : Engine) : EngineCalm e e := ⟨rfl, rfl, .inl rfl⟩

theorem EngineCalm.trans {e f g : Engine} (h : EngineCalm e f) (k : EngineCalm f g) : EngineCalm e g := by
  obtain ⟨hest, hwindows, hqueue⟩ := h
  obtain ⟨hest', hwindows', hqueue'⟩ := k
  exact ⟨hest'.trans hest, hwindows'.trans hwindows, hqueue'.elim (fun hsame => hsame ▸ hqueue) .inr⟩

/-- Nothing but ages of the live store has changed, and these stay in their range. -/
def LiveCalm (l m : PerSignal Live) : Prop :=
  ∀ g, (m.get g).value = (l.get g).value ∧ (m.get g).clamps = (l.get g).clamps ∧
    ((m.get g).age = (l.get g).age ∨ (m.get g).age ≤ 255)

theorem LiveCalm.refl (l : PerSignal Live) : LiveCalm l l := fun _ => ⟨rfl, rfl, .inl rfl⟩

theorem LiveCalm.trans {l m n : PerSignal Live} (h : LiveCalm l m) (k : LiveCalm m n) : LiveCalm l n := fun g => by
  obtain ⟨hvalue, hclamps, hage⟩ := h g
  obtain ⟨hvalue', hclamps', hage'⟩ := k g
  exact ⟨hvalue'.trans hvalue, hclamps'.trans hclamps, hage'.elim (fun hsame => hsame ▸ hage) .inr⟩

theorem LiveInRange.calm {l m : PerSignal Live} (h : LiveInRange l) (k : LiveCalm l m) : LiveInRange m := fun g => by
  obtain ⟨hvalue, hage, hclamps⟩ := h g
  obtain ⟨hvalue', hclamps', hage'⟩ := k g
  rw [hvalue', hclamps']
  exact ⟨hvalue, hage'.elim (fun hsame => hsame ▸ hage) id, hclamps⟩

/-- Neither the estimates nor the live values have moved between two states. -/
def Calm (s t : State) : Prop := LiveCalm s.capture.live t.capture.live ∧ EngineCalm s.engine t.engine

section
variable {s t u : State}

theorem Calm.trans (h : Calm s t) (g : Calm t u) : Calm s u := ⟨h.1.trans g.1, h.2.trans g.2⟩

theorem Calm.of_agree (hcapture : t.capture = s.capture := by simp) (hengine : t.engine = s.engine := by simp) :
    Calm s t := by
  rw [Calm, hcapture, hengine]
  exact ⟨.refl _, .refl _⟩

theorem Calm.of_engine (hcapture : t.capture = s.capture) (hengine : EngineCalm s.engine t.engine) : Calm s t := by
  rw [Calm, hcapture]
  exact ⟨.refl _, hengine⟩

theorem EstimatesInv.calm (h : EstimatesInv s) (g : Calm s t)
    (hcomputing : t.engine.computing = s.engine.computing := by simp) : EstimatesInv t := by
  obtain ⟨hlive, hcycle, hest, hqueue, hwindows⟩ := h
  obtain ⟨hlive', hest', hwindows', hqueue'⟩ := g
  refine ⟨hlive.calm hlive', fun y hy => hcycle y (hcomputing ▸ hy), hest' ▸ hest, ?_, hwindows' ▸ hwindows⟩
  rcases hqueue' with hsame | hempty
  · rwa [hsame]
  · rw [hempty]
    exact ⟨Nat.zero_le 16, by simp⟩

theorem EstimatesInv.of_agree (h : EstimatesInv s) (hcapture : t.capture = s.capture := by simp)
    (hengine : t.engine = s.engine := by simp) : EstimatesInv t :=
  h.calm (.of_agree hcapture hengine) (by rw [hengine])

theorem calm_applyProgramme (s : State) : Calm s (applyProgramme s) := by
  unfold applyProgramme
  split
  · exact .of_agree rfl rfl
  · exact .of_engine (by simp) (by simp [EngineCalm])

theorem calm_reselect (s : State) : Calm s (reselect s) := by
  unfold reselect
  split
  · exact .of_agree rfl rfl
  · split
    · exact .of_agree
    · unfold loseSource
      refine Calm.trans (t := closeForSilence _) ?_ (calm_applyProgramme _)
      exact .of_agree

theorem calm_swapCapture (o : Tables) (s : State) : Calm s (swapCapture o s) := by
  refine ⟨fun g => ?_, by simpa using EngineCalm.refl _⟩
  simp only [swapCapture, setLive_capture, PerSignal.get_ofFn]
  split
  · exact ⟨rfl, rfl, .inl rfl⟩
  · exact ⟨rfl, rfl, .inr (Nat.le_refl 255)⟩

theorem calm_swapPreview (o : Tables) (s : State) : Calm s (swapPreview o s) := by
  unfold swapPreview
  split
  · exact .of_agree rfl rfl
  · split
    · exact .of_engine rfl ⟨rfl, rfl, .inl rfl⟩
    · exact .of_engine rfl ⟨rfl, rfl, .inr rfl⟩

/-- A swap ages signals and empties the preview queue at most (R34, R90). -/
theorem calm_performSwap (s : State) : Calm s (performSwap s) := by
  have hcapture : Calm s (swapCapture s.tables (copyStaged s)) :=
    Calm.trans (t := copyStaged s) .of_agree (calm_swapCapture _ _)
  have htiming : Calm s (swapTiming s.tables (swapCapture s.tables (copyStaged s))) :=
    hcapture.trans (Calm.trans (.of_agree rfl rfl) (calm_reselect _))
  have hpreview := htiming.trans (calm_swapPreview s.tables _)
  exact hpreview.trans (.of_agree (by simp [performSwap]) (by simp [performSwap]))

theorem calm_completeCommit (s : State) : Calm s (completeCommit s) := by
  unfold completeCommit
  split
  · exact (calm_performSwap s).trans .of_agree
  · exact .of_agree rfl rfl

theorem calm_reevaluate (o : Bool) (s : State) : Calm s (reevaluate o s) := by
  have hunselected : Calm s { s with timing := { s.timing with selected := none } } := .of_agree rfl rfl
  have hclosed (s : State) : Calm s (closeForSilence s) := .of_agree
  unfold reevaluate
  split
  · exact .of_agree rfl rfl
  · split
    · exact .of_agree
    · refine Calm.trans ?_ (calm_applyProgramme _)
      cases o with
      | true => exact hunselected.trans ((calm_completeCommit _).trans (hclosed _))
      | false => exact hunselected.trans ((hclosed _).trans (calm_completeCommit _))

theorem calm_ageSignals (k : Nat) (s : State) : Calm s (ageSignals k s) := by
  refine ⟨fun g => ?_, by simpa using EngineCalm.refl _⟩
  simp only [ageSignals, setLive_capture, PerSignal.get_ofFn]
  exact ⟨trivial, trivial, .inr (Nat.min_le_left _ _)⟩

/-! ### Marks and samples -/

/-- A cycle's snapshot holds live values (R29). -/
theorem EstimatesInv.startCycle (h : EstimatesInv s) (k : Nat) (seq : Word) (n : Count) :
    EstimatesInv (startCycle k seq n s) := by
  have hcalm := (calm_completeCommit s).trans (calm_applyProgramme _)
  have happlied : EstimatesInv (applyProgramme (completeCommit s)) := h.calm hcalm
  obtain ⟨hlive, -, hengine⟩ := id happlied
  have hsnapshot : ∀ g, InRange g ((takeSnapshot (applyProgramme (completeCommit s))).get g).value := fun g => by
    simpa [takeSnapshot] using (hlive g).1
  obtain ⟨haged, -⟩ := happlied.calm (calm_ageSignals k _)
  unfold Machine.startCycle
  dsimp only
  refine ⟨?_, ?_, ?_⟩
  · simpa [ageSignals] using haged
  · rintro y hy g
    cases hy
    simpa [takeSnapshot] using (hlive g).1
  · simpa using hengine

theorem EstimatesInv.markArrives (h : EstimatesInv s) (src : Source) : EstimatesInv (markArrives src s) := by
  have hrestarted : EstimatesInv (restartTimer src s) := h.of_agree rfl rfl
  unfold Machine.markArrives
  split
  · exact hrestarted.calm (calm_reevaluate false _)
  · exact hrestarted

theorem EstimatesInv.examineMark (h : EstimatesInv s) (p : Port) (seq : Word) :
    EstimatesInv (examineMark p seq s) := by
  unfold Machine.examineMark
  split
  · exact h.of_agree
  · split
    · exact h.of_agree rfl rfl
    · unfold serveMark
      exact EstimatesInv.startCycle h.of_agree _ _ _

theorem EstimatesInv.readMark (h : EstimatesInv s) (p : Port) (ident : Nat) (ws : List Word) :
    EstimatesInv (readMark p ident ws s) := by
  unfold Machine.readMark
  split
  · exact h
  · split
    · exact h.markArrives _
    · split
      · exact (h.markArrives _).examineMark p _
      · exact h.markArrives _

theorem EstimatesInv.writeSignal (h : EstimatesInv s) (g : Signal) (v : Int) : EstimatesInv (writeSignal g v s) := by
  obtain ⟨hlive, hengine⟩ := h
  refine ⟨fun x => ?_, by simpa using hengine⟩
  have hclamps := (hlive g).2.2
  simp only [Machine.writeSignal, setFlagIf_capture, setLive_capture]
  by_cases hx : x = g
  · subst hx
    rw [PerSignal.get_set_same]
    refine ⟨inRange_clampSignal x v, Nat.zero_le 255, ?_⟩
    dsimp only
    split
    · exact Nat.min_le_left _ _
    · exact hclamps
  · rw [PerSignal.get_set_ne _ _ hx]
    exact hlive x

theorem EstimatesInv.readSample (h : EstimatesInv s) (ident : Nat) (ws : List Word) :
    EstimatesInv (readSample ident ws s) := by
  refine List.foldlRecOn (motive := EstimatesInv) signals _ h fun s h g _ => ?_
  unfold serveRow
  split
  · exact h
  · split
    · split
      · exact h
      · exact h.writeSignal g _
    · exact h

theorem EstimatesInv.handOver (h : EstimatesInv s) (p : Port) (ws : List Word) : EstimatesInv (handOver p ws s) := by
  unfold Machine.handOver
  dsimp only
  split_ifs
  · exact h.readSample _ _
  · exact h.readMark p _ _
  · exact h

theorem calm_cancelWaiting (r : Request) (s : State) : Calm s (cancelWaiting r s) := by
  unfold cancelWaiting
  split_ifs
  · exact .of_agree rfl rfl
  · exact .of_engine rfl ⟨rfl, rfl, .inl rfl⟩
  · exact .of_agree rfl rfl
  · exact .of_agree rfl rfl

theorem EstimatesInv.takeRequestFrame (h : EstimatesInv s) (p : Port) (ws : List Word) :
    EstimatesInv (takeRequestFrame p ws s) := by
  unfold Machine.takeRequestFrame
  split
  · exact h
  · dsimp only
    split_ifs
    · unfold abortRequests
      cases s.mgmt.executing with
      | none => exact h.of_agree
      | some x => exact (h.calm (calm_cancelWaiting x s)).of_agree
    · exact h.of_agree rfl rfl
    · exact h.of_agree

theorem EstimatesInv.receive (h : EstimatesInv s) (p : Port) (ws : List Word) (o : Bool) (x : Reception) :
    EstimatesInv (receive p ws o s x) := by
  cases x with
  | check => exact h.of_agree rfl rfl
  | format => exact h.of_agree rfl rfl
  | consumed => exact h.takeRequestFrame p _
  | full => exact EstimatesInv.handOver (s := setFlag .fullDrops s) (h.of_agree rfl rfl) p ws
  | accepted =>
    cases o with
    | true => exact (h.handOver p ws).of_agree (t := forward p ws (Machine.handOver p ws s))
    | false => exact EstimatesInv.handOver (s := forward p ws s) h.of_agree p ws

/-! ### Requests and resets -/

theorem EstimatesInv.of_commit (h : EstimatesInv s) (r : Request) : EstimatesInv (doCommit r s) := by
  obtain ⟨x, ws, heq⟩ | ⟨-, ⟨-, heq⟩ | ⟨-, heq⟩⟩ := doCommit_cases r s <;> rw [heq]
  · exact h.of_agree
  · exact (h.calm (calm_performSwap s)).of_agree
  · exact h.of_agree

theorem EstimatesInv.of_setProgramme (h : EstimatesInv s) (r : Request) : EstimatesInv (doSetProgramme r s) := by
  obtain ⟨x, g, heq⟩ | ⟨g, heq⟩ := doSetProgramme_cases r s <;> rw [heq]
  · exact h.calm (.of_engine (by simp) (by simp [EngineCalm]))
  · exact h.calm (.of_engine rfl ⟨rfl, rfl, .inl rfl⟩)

theorem EstimatesInv.of_enableDrive (h : EstimatesInv s) (r : Request) : EstimatesInv (doEnableDrive r s) := by
  obtain ⟨x, ws, heq⟩ | ⟨-, -, -, -, heq⟩ := doEnableDrive_cases r s <;> rw [heq] <;> exact h.of_agree

theorem EstimatesInv.of_monitorTest (h : EstimatesInv s) (r : Request) : EstimatesInv (doMonitorTest r s) := by
  obtain ⟨x, ws, heq⟩ | ⟨c, d, -, -, heq⟩ := doMonitorTest_cases r s <;> rw [heq] <;> exact h.of_agree

theorem EstimatesInv.of_clearFaults (h : EstimatesInv s) (r : Request) : EstimatesInv (doClearFaults r s) := by
  obtain ⟨x, w, heq⟩ := doClearFaults_answers r s
  rw [heq]
  exact h.of_agree

theorem engineInRange_reset (g : Programme) : EngineInRange (Engine.reset g) := by
  refine ⟨by simp [Engine.reset], fun c => ?_, ⟨Nat.zero_le 16, by simp [Engine.reset]⟩, fun d => ?_⟩
  · cases c <;> simp [EstimateInRange, Engine.reset, Estimation.reset, travelOf, InRange]
  · cases d <;> exact ⟨Nat.zero_le 255, Nat.le_refl 256⟩

theorem liveInRange_reset : LiveInRange (PerSignal.all Live.reset) := fun g => by
  rw [PerSignal.get_all]
  refine ⟨?_, Nat.le_refl 255, Nat.zero_le 65535⟩
  cases g <;> exact ⟨by decide, by decide⟩

theorem estimatesInv_of_reset (t : Tables) (w : Word) (s : State) : EstimatesInv (resetBlocks t w s) := by
  exact ⟨liveInRange_reset, engineInRange_reset _⟩

theorem EstimatesInv.of_resetControl (h : EstimatesInv s) (r : Request) : EstimatesInv (doResetControl r s) := by
  obtain ⟨x, ws, heq⟩ | ⟨-, heq⟩ := doResetControl_cases r s <;> rw [heq]
  · exact h.of_agree
  · have hlive : LiveCalm s.capture.live (resetControl s).capture.live := fun g => by
      simp [resetControl, State.setLive, Config.ageMax]
    exact EstimatesInv.of_agree (s := resetControl s) ⟨h.1.calm hlive, engineInRange_reset _⟩

end

/-- Every event keeps the ranges: what is written is clamped, or comes from a validated bank. -/
theorem estimatesInv_kept : EventsKeep TablesInv EstimatesInv where
  dequeued _ hA h := ⟨hA, h⟩
  received p ws _ _ o _ _ h := EstimatesInv.receive h.of_agree p ws o _
  transmitted _ _ h := h.of_agree
  silenced o _ _ h := EstimatesInv.calm (s := State.setSources _ _) h.of_agree (calm_reevaluate o _)
  completed := by
    intro s y hy hA h
    obtain ⟨-, -, -, -, hcycle⟩ := hA
    obtain ⟨hlive, hengine⟩ := h
    refine EstimatesInv.of_agree (s := { s with engine := finishCycle y s.engine })
      ⟨hlive, finishCycle_inRange (hcycle y hy.2) hy.2 hengine⟩
  staggered _ _ h := h.of_agree
  boostExpired _ _ h := h.of_agree
  measured _ _ _ _ h := h.of_agree
  sampled _ _ h := h.of_agree (by simp [keepSample]) (by simp [keepSample])
  nop _ _ h := h.of_agree
  load _ _ h := h.of_agree
  readTable _ _ h := h.of_agree
  commit _ _ h := EstimatesInv.of_commit h.of_agree _
  discard _ _ h := h.of_agree
  setProgramme _ _ h := EstimatesInv.of_setProgramme h.of_agree _
  enableDrive _ _ h := EstimatesInv.of_enableDrive h.of_agree _
  disableDrive _ _ h := h.of_agree
  monitorTest _ _ h := EstimatesInv.of_monitorTest h.of_agree _
  clearFaults _ _ h := EstimatesInv.of_clearFaults h.of_agree _
  clearFlags _ _ h := h.of_agree
  readState _ _ h := h.of_agree
  resetControl _ _ h := EstimatesInv.of_resetControl h.of_agree _
  unknown _ _ h := h.of_agree
  powerOn _ _ := estimatesInv_of_reset _ _ _
  resetLine _ _ := estimatesInv_of_reset _ _ _
  resetEnded _ _ h := h.of_agree

/-- Settles O60: the banks are kept by O53, and the ranges by the events one by one. -/
theorem stepsKeepEstimatesInRange : Obligations.StepsKeepEstimatesInRange := by
  intro s t h hstep
  rw [engineInv_iff] at h ⊢
  obtain ⟨hbanks, hranges⟩ := h
  exact ⟨stepsKeepTheBanksValidated s t hbanks hstep, estimatesInv_kept.step hbanks hranges hstep⟩

end Sys2Proof.Machine

/-! Properties of the drive records, kept by every step: one event at a time, where every event outside the Drive Unit
acts on the records by closing the gate or by a swap alone. -/

namespace Sys2Proof.Machine

/-- Two states agree on the records, the arbiter's lists, ACTIVE, the supply sample and the gate. -/
structure SameDrive (s t : State) : Prop where
  corners : t.drive.corners = s.drive.corners := by simp
  slots : t.drive.slots = s.drive.slots := by simp
  waiting : t.drive.waiting = s.drive.waiting := by simp
  active : t.tables.active = s.tables.active := by simp
  activeValid : t.tables.activeValid = s.tables.activeValid := by simp
  sample : t.supply.sample = s.supply.sample := by simp
  gate : t.gate = s.gate := by simp

theorem SameDrive.corner {s t : State} (h : SameDrive s t) (c : Corner) : t.corner c = s.corner c := by
  rw [State.corner, h.corners, State.corner]

theorem SameDrive.refl (s : State) : SameDrive s s where

theorem SameDrive.trans {s t u : State} (h : SameDrive s t) (g : SameDrive t u) : SameDrive s u where
  corners := g.corners.trans h.corners
  slots := g.slots.trans h.slots
  waiting := g.waiting.trans h.waiting
  active := g.active.trans h.active
  activeValid := g.activeValid.trans h.activeValid
  sample := g.sample.trans h.sample
  gate := g.gate.trans h.gate

/-- Every event that touches the drive records keeps `P` where `A` holds before the event; `V` is what a swap needs of
the banks. -/
structure DriveKeeps (A : State → Prop) (V : Tables → Prop) (P : State → Prop) : Prop where
  dequeued : ∀ {s : State} (rest : List Instr), A s → A { s with pending := rest }
  pends : ∀ {s : State}, A s → s.tables.commitPending = true → V s.tables
  passes : ∀ {s : State}, A s → validate s.tables.staged s.tables.active s.gate.isOpen = none → V s.tables
  same : ∀ {s t : State}, SameDrive s t → P s → P t
  closed : ∀ {s : State} (x : CloseCause), P s → P (closeGate x s)
  swapped : ∀ {s : State}, V s.tables → P s → P (performSwap s)
  updated : ∀ {s t : State} (c : Corner) (i : Nat), A s → SameDrive s t → P t → P (updateTarget c i t)
  delivered : ∀ {s t : State} (b : Bank) (ts : PerCorner Nat), A s → SameDrive s t → P t → P (deliver b ts t)
  boostExpired : ∀ {s : State} {c : Corner} {timeout : Nat}, (s.corner c).state = .boost timeout → A s → P s →
    P (endBoost c (s.corner c).target (setFlag .boostTimeout (countTimeout c s)))
  measured : ∀ {s : State} (c : Corner) (m : Nat), A s → P s →
    P (endPeriod c (actOnMeasurement c m (keepMeasurement c m (runPeriod c s))))
  sampled : ∀ {s : State} (v : Nat), A s → P s → P (actOnSample (keepSample v s))
  opened : ∀ {s t : State}, A s → SameDrive s t → t.tables.activeValid = true → P t → P (openGate t)
  cleared : ∀ {s t : State} (w : Word), A s → SameDrive s t → P t → P (clearNamed w t)
  restarted : ∀ {s : State}, P s → P (resetControl s)
  reset : ∀ (ts : Tables) (w : Word) (s : State), P (resetBlocks ts w s)
  started : ∀ {s : State}, P s → P (startPeriods s)

theorem sameDrive_takeRequestFrame (p : Port) (ws : List Word) (s : State) :
    SameDrive s (takeRequestFrame p ws s) := by
  obtain ⟨hactive, hvalid, -⟩ := takeRequestFrame_active p ws s
  exact { active := hactive, activeValid := hvalid }

/-- Once a swap is made none pends. -/
theorem pends_of_swapTaken {V : Tables → Prop} {s t : State} (h : SwapTaken s.tables t.tables)
    (hV : s.tables.commitPending = true → V s.tables) (hpending : t.tables.commitPending = true) : V t.tables := by
  obtain hsame | ⟨-, hswapped⟩ := h
  · rw [hsame] at hpending ⊢
    exact hV hpending
  · rw [hswapped] at hpending
    cases hpending

section
variable {A P : State → Prop} {V : Tables → Prop} (k : DriveKeeps A V P) {s : State}
include k

/-! ### Marks -/

theorem DriveKeeps.closeForSilence (hP : P s) : P (closeForSilence s) :=
  k.same (s := closeGate .marksSilent s) (t := setFlag .marksSilent (closeGate .marksSilent s)) { } (k.closed _ hP)

theorem DriveKeeps.applyProgramme (hP : P s) : P (applyProgramme s) := k.same { } hP

theorem DriveKeeps.completeCommit (hV : s.tables.commitPending = true → V s.tables) (hP : P s) :
    P (completeCommit s) := by
  unfold Machine.completeCommit
  split
  · rename_i hpending
    exact k.same (s := performSwap s) { } (k.swapped (hV hpending) hP)
  · exact hP

theorem DriveKeeps.reevaluate (o : Bool) (hV : s.tables.commitPending = true → V s.tables) (hP : P s) :
    P (reevaluate o s) := by
  have hunselected : P { s with timing := { s.timing with selected := none } } := k.same { } hP
  unfold Machine.reevaluate
  split
  · exact hP
  · split
    · exact k.same { } hP
    · refine k.applyProgramme ?_
      cases o with
      | true => exact k.closeForSilence (k.completeCommit hV hunselected)
      | false => exact k.completeCommit (by simpa using hV) (k.closeForSilence hunselected)

theorem DriveKeeps.startCycle (seq : Word) (n : Nat) (number : Count)
    (hV : s.tables.commitPending = true → V s.tables) (hP : P s) : P (startCycle n seq number s) := by
  obtain ⟨hgate, hsupply, hdrive, -⟩ := startCycle_keeps n seq number s
  have htables := startCycle_tables n seq number s
  refine k.same (s := Machine.completeCommit s) ?_ (k.completeCommit hV hP)
  exact { corners := by rw [hdrive], slots := by rw [hdrive], waiting := by rw [hdrive], active := by rw [htables],
          activeValid := by rw [htables], sample := by rw [hsupply], gate := hgate }

theorem DriveKeeps.examineMark (p : Port) (seq : Word) (hV : s.tables.commitPending = true → V s.tables) (hP : P s) :
    P (examineMark p seq s) := by
  unfold Machine.examineMark
  split
  · exact k.same { } hP
  · split
    · exact k.same { } hP
    · rename_i n gap _
      refine k.startCycle _ _ _ (by simpa using hV) ?_
      exact k.same (s := setFlagIf gap .markGap s) { } (k.same { } hP)

theorem DriveKeeps.markArrives (src : Source) (hV : s.tables.commitPending = true → V s.tables) (hP : P s) :
    P (markArrives src s) := by
  have hrestarted : P (restartTimer src s) := k.same (t := State.setSources _ _) { } hP
  unfold Machine.markArrives
  split
  · exact k.reevaluate false hV hrestarted
  · exact hrestarted

theorem DriveKeeps.readMark (p : Port) (ident : Nat) (ws : List Word)
    (hV : s.tables.commitPending = true → V s.tables) (hP : P s) : P (readMark p ident ws s) := by
  unfold Machine.readMark
  split
  · exact hP
  · rename_i src _
    have harrived : P (Machine.markArrives src s) := k.markArrives src hV hP
    split
    · exact harrived
    · split
      · exact k.examineMark p _ (pends_of_swapTaken (markArrives_tables src s) hV) harrived
      · exact harrived

theorem DriveKeeps.handOver (p : Port) (ws : List Word) (hV : s.tables.commitPending = true → V s.tables) (hP : P s) :
    P (handOver p ws s) := by
  unfold Machine.handOver
  dsimp only
  split_ifs
  · exact k.same { } hP
  · exact k.readMark p _ _ hV hP
  · exact hP

theorem DriveKeeps.receive (p : Port) (ws : List Word) (o : Bool) (x : Reception)
    (hV : s.tables.commitPending = true → V s.tables) (hP : P s) : P (receive p ws o s x) := by
  cases x with
  | check => exact k.same (t := setFlag .checkErrors s) { } hP
  | format => exact k.same (t := setFlag .checkErrors s) { } hP
  | consumed => exact k.same (sameDrive_takeRequestFrame p _ s) hP
  | full => exact k.handOver (s := setFlag .fullDrops s) p ws hV (k.same { } hP)
  | accepted =>
    cases o with
    | true => exact k.same (t := forward p ws (Machine.handOver p ws s)) { } (k.handOver p ws hV hP)
    | false => exact k.handOver (s := forward p ws s) p ws (by simpa using hV) (k.same { } hP)

/-! ### Requests -/

theorem DriveKeeps.answer (r : Request) (x : Result) (ws : List Word) (hP : P s) : P (answer r x ws s) := k.same { } hP

theorem DriveKeeps.commit (r : Request) (hV : validate s.tables.staged s.tables.active s.gate.isOpen = none → V s.tables)
    (hP : P s) : P (doCommit r s) := by
  obtain ⟨x, ws, heq⟩ | ⟨hpasses, ⟨-, heq⟩ | ⟨-, heq⟩⟩ := doCommit_cases r s <;> rw [heq]
  · exact k.answer _ _ _ hP
  · exact k.answer _ _ _ (k.swapped (hV hpasses) hP)
  · exact k.same { } hP

theorem DriveKeeps.setProgramme (r : Request) (hP : P s) : P (doSetProgramme r s) := by
  obtain ⟨x, g, heq⟩ | ⟨g, heq⟩ := doSetProgramme_cases r s <;> rw [heq]
  · exact k.answer _ _ _ (k.same { } hP)
  · exact k.same { } hP

theorem DriveKeeps.monitorTest (r : Request) (hP : P s) : P (doMonitorTest r s) := by
  obtain ⟨x, ws, heq⟩ | ⟨c, d, -, -, heq⟩ := doMonitorTest_cases r s <;> rw [heq]
  · exact k.answer _ _ _ hP
  · exact k.same { } hP

theorem DriveKeeps.enableDrive {t : State} (r : Request) (hA : A s) (hsame : SameDrive s t) (hP : P t) :
    P (doEnableDrive r t) := by
  obtain ⟨x, ws, heq⟩ | ⟨-, hvalid, -, -, heq⟩ := doEnableDrive_cases r t <;> rw [heq]
  · exact k.answer _ _ _ hP
  · exact k.answer _ _ _ (k.opened hA hsame hvalid hP)

theorem DriveKeeps.clearFaults {t : State} (r : Request) (hA : A s) (hsame : SameDrive s t) (hP : P t) :
    P (doClearFaults r t) := by
  obtain ⟨x, w, heq⟩ := doClearFaults_answers r t
  rw [heq]
  exact k.answer _ _ _ (k.cleared w hA hsame hP)

theorem DriveKeeps.resetControl (r : Request) (hP : P s) : P (doResetControl r s) := by
  obtain ⟨x, ws, heq⟩ | ⟨-, heq⟩ := doResetControl_cases r s <;> rw [heq]
  · exact k.answer _ _ _ hP
  · exact k.answer _ _ _ (k.restarted hP)

/-- What the drive's events keep, every event keeps. -/
theorem DriveKeeps.events : EventsKeep A P where
  dequeued rest hA hP := ⟨k.dequeued rest hA, k.same { } hP⟩
  received p ws _ _ o _ hA hP := k.receive p ws o _ (by simpa using k.pends hA) (k.same { } hP)
  transmitted _ _ hP := k.same { } hP
  silenced o _ hA hP := by
    have hpends := k.pends hA
    exact k.reevaluate (s := State.setSources _ _) o hpends (k.same { } hP)
  completed := by
    intro s y _ hA hP
    have hsame : SameDrive s (writeResults y s) := { }
    have hwritten : P (writeResults y s) := k.same hsame hP
    have hreport {t : State} (hP : P t) : P (makeReport y t) := k.same { } hP
    unfold stageDelivery
    refine hreport ?_
    split
    · exact hwritten
    · exact k.delivered _ _ hA hsame hwritten
  staggered _ hA hP := k.updated (t := State.setStaggered _ _) _ _ hA { } (k.same { } hP)
  boostExpired hboost hA hP := k.boostExpired hboost hA hP
  measured c m _ hA hP := k.measured c m hA hP
  sampled _ hA hP := k.sampled _ hA hP
  nop _ _ hP := k.answer (s := leaveQueue _ _) _ _ _ (k.same { } hP)
  load _ _ hP := k.same { } hP
  readTable _ _ hP := k.same { } hP
  commit _ hA hP := by
    have hpasses := k.passes hA
    exact k.commit (s := leaveQueue _ _) _ hpasses (k.same { } hP)
  discard _ _ hP := k.same { } hP
  setProgramme _ _ hP := k.setProgramme (s := leaveQueue _ _) _ (k.same { } hP)
  enableDrive _ hA hP := k.enableDrive (t := leaveQueue _ _) _ hA { } (k.same { } hP)
  disableDrive _ _ hP := k.answer (s := closeGate _ (leaveQueue _ _)) _ _ _ (k.closed _ (k.same { } hP))
  monitorTest _ _ hP := k.monitorTest (s := leaveQueue _ _) _ (k.same { } hP)
  clearFaults _ hA hP := k.clearFaults (t := leaveQueue _ _) _ hA { } (k.same { } hP)
  clearFlags _ _ hP := k.same { } hP
  readState _ _ hP := k.same { } hP
  resetControl _ _ hP := k.resetControl (s := leaveQueue _ _) _ (k.same { } hP)
  unknown _ _ hP := k.answer (s := leaveQueue _ _) _ _ _ (k.same { } hP)
  powerOn _ _ := k.reset _ _ _
  resetLine _ _ := k.reset _ _ _
  resetEnded _ _ hP := k.same (s := startPeriods _) { } (k.started hP)

end

end Sys2Proof.Machine

/-! The PWM periods (R108): every event but a measurement, a reset and its end leaves them as they run. -/

namespace Sys2Proof.Machine

/-- Every corner's period in progress is as it was. -/
def SamePeriods (s t : State) : Prop :=
  ∀ c, (t.corner c).periodLength = (s.corner c).periodLength ∧ (t.corner c).periodEnded = (s.corner c).periodEnded

section
variable {s t u : State}

theorem SamePeriods.refl (s : State) : SamePeriods s s := fun _ => ⟨rfl, rfl⟩

theorem SamePeriods.trans (h : SamePeriods s t) (g : SamePeriods t u) : SamePeriods s u := fun c =>
  ⟨(g c).1.trans (h c).1, (g c).2.trans (h c).2⟩

theorem SamePeriods.of_corners (h : t.drive.corners = s.drive.corners := by simp) : SamePeriods s t := fun c => by
  rw [State.corner, h, State.corner]
  exact ⟨rfl, rfl⟩

theorem SamePeriods.foldl {α : Type} {f : State → α → State} (h : ∀ s a, SamePeriods s (f s a)) (l : List α) (s : State) :
    SamePeriods s (l.foldl f s) := by
  induction l generalizing s with
  | nil => exact .refl s
  | cons a l ih => exact (h s a).trans (ih _)

theorem PeriodInv.samePeriods (h : PeriodInv s) (g : SamePeriods s t) : PeriodInv t := by
  obtain ⟨hlength, c, hruns⟩ := h
  refine ⟨fun c d => ?_, c, (g c).2.trans hruns⟩
  rw [(g c).1, (g d).1]
  exact hlength c d

end

/-! ### The Drive Unit and the Current Monitor -/

section
variable (c : Corner) (i : Nat) (s : State)

theorem samePeriods_setCorner {c : Corner} {r : DriveRecord} {s : State}
    (hlength : r.periodLength = (s.corner c).periodLength := by rfl)
    (hended : r.periodEnded = (s.corner c).periodEnded := by rfl) : SamePeriods s (s.setCorner c r) := fun d => by
  rw [corner_setCorner]
  split
  · rename_i hd
    rw [hd]
    exact ⟨hlength, hended⟩
  · exact ⟨rfl, rfl⟩

theorem samePeriods_enter (d : DriveState) : SamePeriods s (enter c d i s) := samePeriods_setCorner

theorem samePeriods_toHold : SamePeriods s (toHold c i s) :=
  (samePeriods_enter c i s .hold).trans (.of_corners (by simp [toHold]))

theorem samePeriods_toWait : SamePeriods s (toWait c i s) :=
  (samePeriods_enter c i s (.wait (s.corner c).target)).trans (.of_corners (by simp [toWait]))

theorem samePeriods_toBoost : SamePeriods s (toBoost c i s) :=
  (samePeriods_enter c i s (.boost s.tables.active.boostTimeout)).trans (.of_corners (by simp [toBoost]))

theorem samePeriods_toOff : SamePeriods s (toOff c s) :=
  (samePeriods_enter c (s.corner c).target s .off).trans (.of_corners (by simp [toOff]))

theorem samePeriods_retarget : SamePeriods s (retarget c i s) := by
  unfold retarget
  dsimp only
  split
  · exact samePeriods_enter c i s _
  · exact (samePeriods_enter c i s (s.corner c).state).trans .of_corners

theorem samePeriods_grantHead : SamePeriods s (grantHead s) := by
  unfold grantHead
  split
  · exact .refl s
  · split
    · exact SamePeriods.trans (t := s.setWaiting _) .of_corners (samePeriods_toBoost _ _ _)
    · exact .refl s

theorem samePeriods_endBoost : SamePeriods s (endBoost c i s) :=
  (samePeriods_toHold c i s).trans (SamePeriods.trans (t := State.setSlots _ _) .of_corners (samePeriods_grantHead _))

theorem samePeriods_requestBoost : SamePeriods s (requestBoost c i s) := by
  unfold requestBoost
  split
  · exact samePeriods_toBoost c i s
  · exact samePeriods_toWait c i s

theorem samePeriods_updateTarget : SamePeriods s (updateTarget c i s) := by
  unfold updateTarget
  dsimp only
  split
  · exact .refl s
  · exact .refl s
  · split
    · exact samePeriods_requestBoost c _ s
    · exact samePeriods_retarget c _ s
  · split
    · exact samePeriods_retarget c _ s
    · exact SamePeriods.trans (t := s.setWaiting _) .of_corners (samePeriods_toHold c _ _)
  · split
    · exact samePeriods_enter c _ s _
    · exact samePeriods_endBoost c _ s

theorem samePeriods_deliver (b : Bank) (ts : PerCorner Nat) : SamePeriods s (deliver b ts s) := by
  have hcancelled : SamePeriods s (cancelStaggered s) := .of_corners
  unfold deliver
  dsimp only
  split
  · refine hcancelled.trans ((samePeriods_updateTarget .fl ts.fl _).trans ?_)
    exact .of_corners rfl
  · unfold deliverTogether
    exact hcancelled.trans ((SamePeriods.foldl (fun s c => samePeriods_updateTarget c _ s) _ _).trans
      ((SamePeriods.foldl (fun s c => samePeriods_updateTarget c _ s) _ _).trans
        (SamePeriods.foldl (fun s c => samePeriods_requestBoost c _ s) _ _)))

theorem samePeriods_latchFault (x : FaultCause) : SamePeriods s (latchFault c x s) := by
  have hcause : SamePeriods s (setFlag .cornerFault (s.setCorner c { s.corner c with cause := x })) :=
    (samePeriods_setCorner (r := { s.corner c with cause := x })).trans .of_corners
  unfold latchFault
  dsimp only
  split
  · exact hcause
  · exact hcause.trans ((samePeriods_enter c (s.corner c).target _ .fault).trans (.of_corners (by simp)))

theorem samePeriods_judge (m : Nat) : SamePeriods s (judge c m s) := by
  have hdriven : SamePeriods s (judgeDriven c m s) := by
    unfold judgeDriven
    dsimp only
    split
    · split
      · exact SamePeriods.trans (t := s.setMonitor c _) .of_corners (samePeriods_latchFault c _ _)
      · exact .of_corners
    · exact .of_corners
  have hoff : SamePeriods s (judgeOff c m s) := by
    unfold judgeOff
    dsimp only
    split
    · split
      · exact SamePeriods.trans (t := State.setMonitor (s.setMonitor c _) c _) .of_corners (samePeriods_latchFault c _ _)
      · exact .of_corners
    · exact .of_corners
  unfold judge
  split
  · exact .refl s
  · split
    · exact .of_corners
    · split
      · exact .of_corners
      · exact hdriven
      · exact hdriven
      · exact hoff
      · exact hoff
      · exact .refl s

theorem samePeriods_actOnMeasurement (m : Nat) : SamePeriods s (actOnMeasurement c m s) := by
  unfold actOnMeasurement
  split
  · split
    · exact samePeriods_endBoost c _ s
    · exact .refl s
  all_goals exact samePeriods_judge c s m

/-! ### The gate, the supply and the swap -/

theorem samePeriods_closeGate (x : CloseCause) : SamePeriods s (closeGate x s) := by
  unfold closeGate
  split
  · refine SamePeriods.trans (t := allDrivenOff { s with gate := { isOpen := false, cause := x } }) ?_ (.of_corners (by simp))
    refine SamePeriods.trans (t := { s with gate := { isOpen := false, cause := x } }) (.of_corners rfl)
      (SamePeriods.foldl (fun s c => ?_) _ _)
    split
    · exact samePeriods_toOff c s
    · exact .refl s
  · exact .refl s

theorem samePeriods_openGate : SamePeriods s (openGate s) := by
  refine SamePeriods.trans (t := { s with gate := { s.gate with isOpen := true } }) (.of_corners rfl)
    (SamePeriods.foldl (fun s c => ?_) _ _)
  split
  · exact samePeriods_toHold c _ s
  · exact .refl s

theorem samePeriods_clearNamed (w : Word) : SamePeriods s (clearNamed w s) := by
  refine SamePeriods.foldl (fun s c => ?_) _ _
  have hcounts : SamePeriods s (clearCounts c s) :=
    SamePeriods.trans (t := s.setMonitor c _) .of_corners samePeriods_setCorner
  rw [clearFault_eq]
  split
  · split
    · exact hcounts.trans (samePeriods_toHold c _ _)
    · exact hcounts.trans (samePeriods_toOff c _)
  · exact hcounts

theorem samePeriods_judgeSupply : SamePeriods s (judgeSupply s) := by
  have hlow : SamePeriods s (judgeLow s) := .of_corners
  unfold judgeSupply judgeCut
  split
  · exact hlow.trans (SamePeriods.trans (t := setFlag .supplyCut (judgeLow s)) .of_corners (samePeriods_closeGate _ _))
  · exact hlow

theorem samePeriods_reformDuties : SamePeriods s (reformDuties s) := fun c => by
  rw [corner_reformDuties, reformed]
  split
  · exact ⟨rfl, rfl⟩
  · exact ⟨rfl, rfl⟩

theorem samePeriods_actOnSample : SamePeriods s (actOnSample s) := by
  have hreformed (t : State) : SamePeriods t (if t.gate.isOpen then reformDuties t else t) := by
    split
    · exact samePeriods_reformDuties t
    · exact .refl t
  refine SamePeriods.trans ?_ (hreformed _)
  split
  · exact samePeriods_judgeSupply s
  · exact .refl s

theorem samePeriods_reselect : SamePeriods s (reselect s) := by
  unfold reselect
  split
  · exact .refl s
  · split
    · exact .of_corners
    · refine SamePeriods.trans (t := closeGate .marksSilent { s with timing := { s.timing with selected := none } }) ?_
        (.of_corners (by simp [loseSource, closeForSilence]))
      exact SamePeriods.trans (t := { s with timing := { s.timing with selected := none } }) (.of_corners rfl)
        (samePeriods_closeGate _ _)

theorem samePeriods_swapDrive (o : Tables) : SamePeriods s (swapDrive o s) := by
  unfold swapDrive
  split
  · exact .refl s
  · refine SamePeriods.trans (SamePeriods.foldl (f := fun s c => swapCorner c s) (fun s c => ?_) corners s) (.of_corners rfl)
    unfold swapCorner
    dsimp only
    split
    · exact samePeriods_retarget c _ s
    · exact samePeriods_setCorner

theorem samePeriods_swapSupply (o : Tables) : SamePeriods s (swapSupply o s) := by
  unfold swapSupply
  split
  · exact .refl s
  · exact samePeriods_judgeSupply s

theorem samePeriods_performSwap : SamePeriods s (performSwap s) := by
  have htiming : SamePeriods s (swapTiming s.tables (swapCapture s.tables (copyStaged s))) :=
    SamePeriods.trans (t := State.setSources (swapCapture s.tables (copyStaged s)) _) .of_corners (samePeriods_reselect _)
  have hpreview : SamePeriods s (swapPreview s.tables (swapTiming s.tables (swapCapture s.tables (copyStaged s)))) :=
    htiming.trans .of_corners
  refine hpreview.trans ((samePeriods_swapDrive _ s.tables).trans ((samePeriods_swapSupply _ s.tables).trans ?_))
  exact .of_corners (by simp [performSwap])

end

/-! ### The events -/

/-- Once the four periods have started together they have one length, and none has ended. -/
theorem periodInv_startPeriods (s : State) : PeriodInv (startPeriods s) :=
  ⟨fun c d => by simp [startPeriod], .fl, by simp [startPeriod]⟩

theorem PeriodInv.runPeriod {s : State} (h : PeriodInv s) (c : Corner) : PeriodInv (runPeriod c s) := by
  unfold Machine.runPeriod
  split
  · exact periodInv_startPeriods s
  · exact h

/-- The last of the four periods to end starts the next ones. -/
theorem PeriodInv.endPeriod {s : State} (h : PeriodInv s) (c : Corner) : PeriodInv (endPeriod c s) := by
  obtain ⟨hlength, -⟩ := h
  unfold Machine.endPeriod
  dsimp only
  split
  · exact periodInv_startPeriods _
  · rename_i hsome
    have hmarked (d : Corner) :
        ((s.setCorner c { s.corner c with periodEnded := true }).corner d).periodLength = (s.corner d).periodLength := by
      rw [corner_setCorner]
      split
      · rename_i hd
        rw [hd]
      · rfl
    refine ⟨fun d e => ?_, by simpa [mem_corners] using hsome⟩
    rw [hmarked, hmarked]
    exact hlength d e

theorem periodInv_kept : DriveKeeps (fun _ => True) (fun _ => True) PeriodInv where
  dequeued _ _ := trivial
  pends _ _ := trivial
  passes _ _ := trivial
  same hsame h := h.samePeriods (.of_corners hsame.corners)
  closed x h := h.samePeriods (samePeriods_closeGate _ x)
  swapped _ h := h.samePeriods (samePeriods_performSwap _)
  updated c i _ _ h := h.samePeriods (samePeriods_updateTarget c i _)
  delivered b ts _ _ h := h.samePeriods (samePeriods_deliver _ b ts)
  boostExpired := by
    intro s c _ _ _ h
    have hcounted : PeriodInv (countTimeout c s) := h.samePeriods samePeriods_setCorner
    have hflagged : PeriodInv (setFlag .boostTimeout (countTimeout c s)) := hcounted.samePeriods .of_corners
    exact hflagged.samePeriods (samePeriods_endBoost _ _ _)
  measured c m _ h :=
    (((h.runPeriod c).samePeriods (t := keepMeasurement c m _) samePeriods_setCorner).samePeriods
      (samePeriods_actOnMeasurement c _ m)).endPeriod c
  sampled v _ h := h.samePeriods (SamePeriods.trans (t := keepSample v _) (.of_corners rfl) (samePeriods_actOnSample _))
  opened _ _ _ h := h.samePeriods (samePeriods_openGate _)
  cleared w _ _ h := h.samePeriods (samePeriods_clearNamed _ w)
  restarted h := h.samePeriods fun c => by
    simp only [State.corner, resetControl, PerCorner.get_ofFn]
    exact ⟨rfl, rfl⟩
  reset _ _ _ := ⟨fun c d => by cases c <;> cases d <;> rfl, .fl, rfl⟩
  started _ := periodInv_startPeriods _

end Sys2Proof.Machine

/-! The boost arbiter's laws, the states a CLOSED gate allows and the duty of each state (R107, R109, R115), kept by every
step. -/

namespace Sys2Proof.Machine

/-! ### The arbiter's lists and the states of the corners (R115) -/

/-- `ArbiterLaws` but for the last clause, of the two lists and the states alone. -/
structure ListsLawful (slots waiting : List Corner) (st : Corner → DriveState) : Prop where
  slots_nodup : slots.Nodup
  mem_slots : ∀ c, c ∈ slots ↔ ∃ timeout, st c = .boost timeout
  slots_le : slots.length ≤ 2
  waiting_nodup : waiting.Nodup
  mem_waiting : ∀ c, c ∈ waiting ↔ ∃ base, st c = .wait base

/-- The states of the corners. -/
def State.states (s : State) (c : Corner) : DriveState := (s.corner c).state

theorem arbiterLaws_iff (s : State) :
    ArbiterLaws s ↔ ListsLawful s.drive.slots s.drive.waiting s.states ∧
      (s.drive.waiting ≠ [] → s.drive.slots.length = 2) := by
  constructor
  · rintro ⟨h1, h2, h3, h4, h5, h6⟩
    exact ⟨⟨h1, h2, h3, h4, h5⟩, h6⟩
  · rintro ⟨⟨h1, h2, h3, h4, h5⟩, h6⟩
    exact ⟨h1, h2, h3, h4, h5, h6⟩

section
variable {slots waiting : List Corner} {st st' : Corner → DriveState} {c : Corner} {d : DriveState}

/-- The corner's new state, the others as they were. -/
theorem ListsLawful.neither_at (h : ListsLawful slots waiting st) (hst : ∀ x, st' x = if x = c then d else st x)
    (hboost : ∀ timeout, d ≠ .boost timeout) (hwait : ∀ base, d ≠ .wait base) :
    ListsLawful (slots.erase c) (waiting.erase c) st' where
  slots_nodup := h.slots_nodup.erase c
  slots_le := List.length_erase_le.trans h.slots_le
  waiting_nodup := h.waiting_nodup.erase c
  mem_slots x := by
    rw [h.slots_nodup.mem_erase_iff, h.mem_slots, hst]
    by_cases hx : x = c <;> simp [hx, hboost]
  mem_waiting x := by
    rw [h.waiting_nodup.mem_erase_iff, h.mem_waiting, hst]
    by_cases hx : x = c <;> simp [hx, hwait]

theorem ListsLawful.boost_at (h : ListsLawful slots waiting st)
    (hst : ∀ x, st' x = if x = c then .boost timeout else st x) (hfree : slots.length < 2)
    (hnot : ∀ timeout, st c ≠ .boost timeout) : ListsLawful (slots ++ [c]) (waiting.erase c) st' where
  slots_nodup := by
    refine List.nodup_append.mpr ⟨h.slots_nodup, List.nodup_singleton c, fun a ha b hb => ?_⟩
    rw [List.mem_singleton.mp hb]
    rintro rfl
    obtain ⟨timeout, hboost⟩ := (h.mem_slots a).mp ha
    exact hnot timeout hboost
  slots_le := by simpa using hfree
  waiting_nodup := h.waiting_nodup.erase c
  mem_slots x := by
    rw [List.mem_append, List.mem_singleton, h.mem_slots, hst]
    by_cases hx : x = c <;> simp [hx]
  mem_waiting x := by
    rw [h.waiting_nodup.mem_erase_iff, h.mem_waiting, hst]
    by_cases hx : x = c <;> simp [hx]

theorem ListsLawful.wait_at (h : ListsLawful slots waiting st) (hst : ∀ x, st' x = if x = c then .wait base else st x)
    (hboost : ∀ timeout, st c ≠ .boost timeout) (hwait : ∀ base, st c ≠ .wait base) :
    ListsLawful slots (waiting ++ [c]) st' where
  slots_nodup := h.slots_nodup
  slots_le := h.slots_le
  waiting_nodup := by
    refine List.nodup_append.mpr ⟨h.waiting_nodup, List.nodup_singleton c, fun a ha b hb => ?_⟩
    rw [List.mem_singleton.mp hb]
    rintro rfl
    obtain ⟨base, hwaits⟩ := (h.mem_waiting a).mp ha
    exact hwait base hwaits
  mem_slots x := by
    rw [h.mem_slots, hst]
    by_cases hx : x = c <;> simp [hx, hboost]
  mem_waiting x := by
    rw [List.mem_append, List.mem_singleton, h.mem_waiting, hst]
    by_cases hx : x = c <;> simp [hx]

theorem ListsLawful.not_mem_slots (h : ListsLawful slots waiting st) (hnot : ∀ timeout, st c ≠ .boost timeout) :
    c ∉ slots := fun hc => by
  obtain ⟨timeout, hboost⟩ := (h.mem_slots c).mp hc
  exact hnot timeout hboost

theorem ListsLawful.not_mem_waiting (h : ListsLawful slots waiting st) (hnot : ∀ base, st c ≠ .wait base) :
    c ∉ waiting := fun hc => by
  obtain ⟨base, hwaits⟩ := (h.mem_waiting c).mp hc
  exact hnot base hwaits

end

section
variable {s t : State} {c : Corner}

theorem ArbiterLaws.of_states (h : ArbiterLaws s) (hslots : t.drive.slots = s.drive.slots)
    (hwaiting : t.drive.waiting = s.drive.waiting) (hstates : ∀ x, (t.corner x).state = (s.corner x).state) :
    ArbiterLaws t := by
  simpa only [ArbiterLaws, hslots, hwaiting, hstates] using h

/-- A corner out of BOOST and WAIT goes to another such state. -/
theorem ArbiterLaws.outside {d : DriveState} (h : ArbiterLaws s) (hslots : t.drive.slots = s.drive.slots)
    (hwaiting : t.drive.waiting = s.drive.waiting.erase c) (hst : ∀ x, t.states x = if x = c then d else s.states x)
    (hnot : ∀ timeout, s.states c ≠ .boost timeout) (hboost : ∀ timeout, d ≠ .boost timeout)
    (hwait : ∀ base, d ≠ .wait base) : ArbiterLaws t := by
  rw [arbiterLaws_iff] at h ⊢
  obtain ⟨hlists, hfull⟩ := h
  have hnew := hlists.neither_at hst hboost hwait
  rw [List.erase_of_not_mem (hlists.not_mem_slots hnot)] at hnew
  rw [hslots, hwaiting]
  exact ⟨hnew, fun hsome => hfull fun hnone => hsome (by rw [hnone]; rfl)⟩

end

/-! ### The records: the duty of each state, and the states a CLOSED gate allows (R107, R109) -/

/-- The clause of `DriveInv` about a record, its duty formed in `r`. -/
def RecordLaw (r : State) (c : Corner) (x : DriveRecord) : Prop :=
  x.duty = dutyOf r c x.state x.target ∧ x.outputDuty ≤ 980 ∧ (x.state = .off ∨ x.state = .fault → x.outputDuty = 0)

/-- The clauses of `DriveInv` about the records, the duties formed in `r`. -/
structure RecordsLaw (r s : State) : Prop where
  powered : s.gate.isOpen = false → ∀ c, (s.corner c).state = .off ∨ (s.corner c).state = .fault
  formed : ∀ c, RecordLaw r c (s.corner c)

theorem driveInv_iff (s : State) : DriveInv s ↔ ArbiterLaws s ∧ RecordsLaw s s :=
  ⟨fun ⟨hlists, hpowered, hformed⟩ => ⟨hlists, hpowered, hformed⟩,
    fun ⟨hlists, hrecords⟩ => ⟨hlists, hrecords.powered, hrecords.formed⟩⟩

theorem isDriven_iff (d : DriveState) : d.isDriven = true ↔ ¬ (d = .off ∨ d = .fault) := by
  cases d <;> simp [DriveState.isDriven, DriveState.isOff]

theorem isOff_iff (d : DriveState) : d.isOff = true ↔ d = .off ∨ d = .fault := by
  cases d <;> simp [DriveState.isOff]

section
variable {r r' s t : State} {c : Corner}

/-- Duties are formed of ACTIVE and the supply sample alone. -/
theorem RecordLaw.of_bank {x : DriveRecord} (h : RecordLaw r c x) (hactive : r'.tables.active = r.tables.active)
    (hsample : r'.supply.sample = r.supply.sample) : RecordLaw r' c x := by
  rwa [RecordLaw, dutyOf_of hactive hsample]

theorem RecordsLaw.of_bank (h : RecordsLaw r s) (hactive : r'.tables.active = r.tables.active)
    (hsample : r'.supply.sample = r.supply.sample) : RecordsLaw r' s :=
  ⟨h.powered, fun c => (h.formed c).of_bank hactive hsample⟩

theorem RecordsLaw.of_agree (h : RecordsLaw r s) (hcorners : t.drive.corners = s.drive.corners := by simp)
    (hgate : t.gate = s.gate := by simp) : RecordsLaw r t := by
  have hcorner (c : Corner) : t.corner c = s.corner c := by rw [State.corner, hcorners, State.corner]
  exact ⟨fun hclosed => by simpa only [hcorner] using h.powered (hgate ▸ hclosed),
    fun c => by simpa only [hcorner] using h.formed c⟩

theorem RecordsLaw.self (h : RecordsLaw s s) (hcorners : t.drive.corners = s.drive.corners := by simp)
    (hgate : t.gate = s.gate := by simp) (hactive : t.tables.active = s.tables.active := by simp)
    (hsample : t.supply.sample = s.supply.sample := by simp) : RecordsLaw t t :=
  (h.of_bank hactive hsample).of_agree hcorners hgate

/-- One corner's record is written anew. -/
theorem RecordsLaw.at_corner {x : DriveRecord} (h : RecordsLaw r s) (hcorner : ∀ d, t.corner d = if d = c then x else s.corner d)
    (hgate : t.gate = s.gate) (hx : RecordLaw r c x) (hon : x.state.isOff = false → s.gate.isOpen = true) :
    RecordsLaw r t := by
  refine ⟨fun hclosed d => ?_, fun d => ?_⟩
  · rw [hgate] at hclosed
    rw [hcorner]
    split
    · rw [← isOff_iff]
      by_contra hnot
      rw [hon (by simpa using hnot)] at hclosed
      cases hclosed
    · exact h.powered hclosed d
  · rw [hcorner]
    split
    · rename_i hd
      rw [hd]
      exact hx
    · exact h.formed d

/-- A driven corner shows an OPEN gate. -/
theorem RecordsLaw.isOpen (h : RecordsLaw r s) (hdriven : (s.corner c).state.isDriven = true) : s.gate.isOpen = true := by
  by_contra hclosed
  exact (isDriven_iff _).mp hdriven (h.powered (by simpa using hclosed) c)

theorem RecordLaw.output_le {x : DriveRecord} (h : RecordLaw r c x) : x.outputDuty ≤ 980 := h.2.1

/-- A record with its duty formed, its output off in OFF and FAULT and as it was otherwise. -/
theorem recordLaw_of_formed {x y : DriveRecord} (hy : RecordLaw r c y) (hduty : x.duty = dutyOf r c x.state x.target)
    (houtput : x.outputDuty = if x.state.isOff then 0 else y.outputDuty) : RecordLaw r c x := by
  refine ⟨hduty, ?_, fun hoff => ?_⟩
  · rw [houtput]
    split
    · exact Nat.zero_le _
    · exact hy.output_le
  · rw [houtput, if_pos ((isOff_iff _).mpr hoff)]

theorem RecordsLaw.enter (h : RecordsLaw r s) (c : Corner) (d : DriveState) (i : Nat) (hduty : dutyOf s c d i = dutyOf r c d i)
    (hon : d.isOff = false → s.gate.isOpen = true) : RecordsLaw r (enter c d i s) :=
  h.at_corner (fun x => corner_enter c x d i s) (by simp) (recordLaw_of_formed (h.formed c) hduty rfl) hon

theorem RecordsLaw.toHold (h : RecordsLaw s s) (c : Corner) (i : Nat) (hopen : s.gate.isOpen = true) :
    RecordsLaw (toHold c i s) (toHold c i s) :=
  ((h.enter c .hold i rfl fun _ => hopen).of_bank (by simp) (by simp)).of_agree (by simp [Machine.toHold]) (by simp)

theorem RecordsLaw.toBoost (h : RecordsLaw s s) (c : Corner) (i : Nat) (hopen : s.gate.isOpen = true) :
    RecordsLaw (toBoost c i s) (toBoost c i s) :=
  ((h.enter c (.boost s.tables.active.boostTimeout) i rfl fun _ => hopen).of_bank (by simp) (by simp)).of_agree
    (by simp [Machine.toBoost]) (by simp)

theorem RecordsLaw.toWait (h : RecordsLaw s s) (c : Corner) (i : Nat) (hopen : s.gate.isOpen = true) :
    RecordsLaw (toWait c i s) (toWait c i s) :=
  ((h.enter c (.wait (s.corner c).target) i rfl fun _ => hopen).of_bank (by simp) (by simp)).of_agree
    (by simp [Machine.toWait]) (by simp)

theorem RecordsLaw.toOff (h : RecordsLaw r s) (c : Corner) : RecordsLaw r (toOff c s) :=
  (h.enter c .off (s.corner c).target rfl (by simp [DriveState.isOff])).of_agree (by simp [Machine.toOff]) (by simp)

theorem RecordsLaw.retarget (h : RecordsLaw r s) (i : Nat)
    (hduty : dutyOf s c (s.corner c).state i = dutyOf r c (s.corner c).state i)
    (hon : (s.corner c).state.isOff = false → s.gate.isOpen = true) : RecordsLaw r (retarget c i s) :=
  h.at_corner (fun x => corner_retarget c x i s) (by simp) (recordLaw_of_formed (h.formed c) hduty rfl) hon

end

/-! ### Both together -/

section
variable {s t : State} {c : Corner}

theorem DriveInv.lists (h : DriveInv s) : ArbiterLaws s := h.1

theorem DriveInv.records (h : DriveInv s) : RecordsLaw s s := ((driveInv_iff s).mp h).2

theorem DriveInv.isOpen (h : DriveInv s) (hdriven : (s.corner c).state.isDriven = true) : s.gate.isOpen = true :=
  h.records.isOpen hdriven

theorem DriveInv.same (h : DriveInv s) (hsame : SameDrive s t) : DriveInv t := by
  refine (driveInv_iff t).mpr ⟨?_, ?_⟩
  · exact h.lists.of_states hsame.slots hsame.waiting fun x => by rw [hsame.corner]
  · exact (h.records.of_bank hsame.active hsame.sample).of_agree hsame.corners hsame.gate

/-- Items of a record that no law speaks of are written. -/
theorem DriveInv.at_corner {x : DriveRecord} (h : DriveInv s) (hstate : x.state = (s.corner c).state := by rfl)
    (htarget : x.target = (s.corner c).target := by rfl) (hduty : x.duty = (s.corner c).duty := by rfl)
    (houtput : x.outputDuty = (s.corner c).outputDuty := by rfl) : DriveInv (s.setCorner c x) := by
  obtain ⟨hlists, hrecords⟩ := (driveInv_iff s).mp h
  refine (driveInv_iff _).mpr ⟨hlists.of_states rfl rfl fun d => ?_, ?_⟩
  · rw [corner_setCorner]
    split
    · rename_i hd
      rw [hd, hstate]
    · rfl
  · refine (hrecords.at_corner (fun d => corner_setCorner s c d x) rfl ?_ fun hon => ?_).of_bank rfl rfl
    · have hc := hrecords.formed c
      rwa [RecordLaw, ← hstate, ← htarget, ← hduty, ← houtput] at hc
    · exact h.isOpen (c := c) (by rw [DriveState.isDriven, ← hstate, hon]; rfl)

theorem states_toHold (c x : Corner) (i : Nat) (s : State) :
    (toHold c i s).states x = if x = c then .hold else s.states x := by
  rw [State.states, corner_toHold]
  split <;> rfl

theorem states_toBoost (c x : Corner) (i : Nat) (s : State) :
    (toBoost c i s).states x = if x = c then .boost s.tables.active.boostTimeout else s.states x := by
  rw [State.states, corner_toBoost]
  split <;> rfl

theorem states_toWait (c x : Corner) (i : Nat) (s : State) :
    (toWait c i s).states x = if x = c then .wait (s.corner c).target else s.states x := by
  rw [State.states, corner_toWait]
  split <;> rfl

theorem states_toOff (c x : Corner) (s : State) : (toOff c s).states x = if x = c then .off else s.states x := by
  rw [State.states, corner_toOff]
  split <;> rfl

theorem states_enter (c x : Corner) (d : DriveState) (i : Nat) (s : State) :
    (enter c d i s).states x = if x = c then d else s.states x := by
  rw [State.states, corner_enter]
  split <;> rfl

theorem state_retarget_same (c x : Corner) (i : Nat) (s : State) :
    ((retarget c i s).corner x).state = (s.corner x).state := by
  rw [corner_retarget]
  split
  · rename_i hx
    rw [hx]
  · rfl

theorem DriveInv.retarget (h : DriveInv s) (c : Corner) (i : Nat) : DriveInv (retarget c i s) := by
  refine (driveInv_iff _).mpr ⟨h.lists.of_states (by simp) (by simp) fun x => state_retarget_same c x i s, ?_⟩
  refine (h.records.retarget (c := c) i rfl fun hon => ?_).of_bank (by simp) (by simp)
  exact h.isOpen (c := c) (by simp [DriveState.isDriven, hon])

/-- A corner in OFF or FAULT goes to HOLD under an OPEN gate (R125, R135). -/
theorem DriveInv.toHold_of_off (h : DriveInv s) (i : Nat) (hoff : (s.corner c).state.isOff = true)
    (hopen : s.gate.isOpen = true) : DriveInv (toHold c i s) := by
  have hnot : (∀ timeout, s.states c ≠ .boost timeout) ∧ ∀ base, s.states c ≠ .wait base := by
    rw [isOff_iff] at hoff
    constructor <;> intro _ hstate <;> simp [State.states] at hstate <;> simp [hstate] at hoff
  refine (driveInv_iff _).mpr ⟨?_, h.records.toHold c i hopen⟩
  refine h.lists.outside (c := c) (by simp) ?_ (fun x => states_toHold c x i s) hnot.1 (by simp) (by simp)
  rw [List.erase_of_not_mem (((arbiterLaws_iff s).mp h.lists).1.not_mem_waiting hnot.2)]
  simp

/-- A corner in FAULT goes to OFF (R135). -/
theorem DriveInv.toOff_of_fault (h : DriveInv s) (hfault : (s.corner c).state = .fault) : DriveInv (toOff c s) := by
  refine (driveInv_iff _).mpr ⟨?_, (h.records.toOff c).of_bank (by simp) (by simp)⟩
  refine h.lists.outside (c := c) (by simp) ?_ (fun x => states_toOff c x s) (by simp [State.states, hfault]) (by simp)
    (by simp)
  rw [List.erase_of_not_mem (((arbiterLaws_iff s).mp h.lists).1.not_mem_waiting (by simp [State.states, hfault]))]
  simp

/-- A corner leaves WAIT for HOLD, and the pending list (R113). -/
theorem DriveInv.withdraw (h : DriveInv s) (i base : Nat) (hwait : (s.corner c).state = .wait base) :
    DriveInv (toHold c i (s.setWaiting (s.drive.waiting.erase c))) := by
  have hopen : s.gate.isOpen = true := h.isOpen (c := c) (by rw [hwait]; rfl)
  refine (driveInv_iff _).mpr ⟨?_, ?_⟩
  · exact h.lists.outside (c := c) (by simp) (by simp) (fun x => states_toHold c x i _)
      (by simp [State.states, hwait]) (by simp) (by simp)
  · have hremoved : RecordsLaw (s.setWaiting (s.drive.waiting.erase c)) (s.setWaiting (s.drive.waiting.erase c)) :=
      h.records.self
    exact hremoved.toHold c i hopen

/-! ### Boosts (R114 to R120) -/

theorem slotFree_iff (s : State) : slotFree s = true ↔ s.drive.slots.length < 2 := by
  simp [slotFree, Config.boostSlots]

/-- A corner in HOLD asks for a boost: it takes a free slot, or waits (R116). -/
theorem DriveInv.requestBoost (h : DriveInv s) (i : Nat) (hhold : (s.corner c).state = .hold) :
    DriveInv (requestBoost c i s) := by
  have hopen : s.gate.isOpen = true := h.isOpen (c := c) (by rw [hhold]; rfl)
  have hboost (timeout : Nat) : s.states c ≠ .boost timeout := by simp [State.states, hhold]
  have hwait (base : Nat) : s.states c ≠ .wait base := by simp [State.states, hhold]
  obtain ⟨hlists, hfull⟩ := (arbiterLaws_iff s).mp h.lists
  unfold Machine.requestBoost
  split
  · rename_i hfree
    rw [slotFree_iff] at hfree
    have hnone : s.drive.waiting = [] := by
      by_contra hsome
      exact absurd (hfull hsome) (Nat.ne_of_lt hfree)
    refine (driveInv_iff _).mpr ⟨(arbiterLaws_iff _).mpr ⟨?_, by simp [hnone]⟩, h.records.toBoost c i hopen⟩
    have hnew := hlists.boost_at (fun x => states_toBoost c x i s) hfree hboost
    rw [List.erase_of_not_mem (hlists.not_mem_waiting hwait)] at hnew
    simpa using hnew
  · rename_i hfree
    rw [slotFree_iff] at hfree
    refine (driveInv_iff _).mpr ⟨(arbiterLaws_iff _).mpr ⟨?_, fun _ => ?_⟩, h.records.toWait c i hopen⟩
    · simpa using hlists.wait_at (fun x => states_toWait c x i s) hboost hwait
    · have hle := hlists.slots_le
      simp only [toWait_frame]
      omega

/-- With one slot free the head of the pending list takes it (R117). -/
theorem grantHead_eq {d : Corner} {rest : List Corner} (hwaiting : s.drive.waiting = d :: rest)
    (hfree : s.drive.slots.length < 2) :
    grantHead s = toBoost d (s.corner d).target (s.setWaiting rest) := by
  unfold grantHead
  rw [hwaiting]
  exact if_pos ((slotFree_iff s).mpr hfree)

theorem grantHead_of_none (hwaiting : s.drive.waiting = []) : grantHead s = s := by
  unfold grantHead
  rw [hwaiting]

theorem arbiterLaws_grantHead (hlists : ListsLawful s.drive.slots s.drive.waiting s.states)
    (hone : s.drive.waiting ≠ [] → s.drive.slots.length = 1) : ArbiterLaws (grantHead s) := by
  rw [arbiterLaws_iff]
  cases hwaiting : s.drive.waiting with
  | nil =>
    rw [grantHead_of_none hwaiting]
    exact ⟨hlists, fun hsome => absurd hwaiting hsome⟩
  | cons d rest =>
    have hlength := hone (by simp [hwaiting])
    have hhead : d ∈ s.drive.waiting := by simp [hwaiting]
    obtain ⟨base, hbase⟩ := (hlists.mem_waiting d).mp hhead
    have hnew := hlists.boost_at (c := d) (fun x => states_toBoost d x (s.corner d).target (s.setWaiting rest)) (by omega)
      (by simp [hbase])
    rw [grantHead_eq hwaiting (by omega)]
    refine ⟨?_, fun _ => by simpa using hlength⟩
    simpa [hwaiting] using hnew

theorem RecordsLaw.grantHead (h : RecordsLaw s s) (hopen : s.gate.isOpen = true) :
    RecordsLaw (grantHead s) (grantHead s) := by
  have hshorter (cs : List Corner) : RecordsLaw (s.setWaiting cs) (s.setWaiting cs) :=
    h.self
  unfold Machine.grantHead
  split
  · exact h
  · split
    · exact (hshorter _).toBoost _ _ hopen
    · exact h

/-- A boost ends, and the slot goes to the head of the pending list (R114, R117, R119, R120). -/
theorem DriveInv.endBoost {timeout : Nat} (h : DriveInv s) (i : Nat) (hboost : (s.corner c).state = .boost timeout) :
    DriveInv (endBoost c i s) := by
  have hopen : s.gate.isOpen = true := h.isOpen (c := c) (by rw [hboost]; rfl)
  obtain ⟨hlists, hfull⟩ := (arbiterLaws_iff s).mp h.lists
  have hmem : c ∈ s.drive.slots := (hlists.mem_slots c).mpr ⟨timeout, hboost⟩
  have hnew := hlists.neither_at (fun x => states_toHold c x i s) (by simp) (by simp)
  rw [List.erase_of_not_mem (hlists.not_mem_waiting (by simp [State.states, hboost]))] at hnew
  refine (driveInv_iff _).mpr ⟨arbiterLaws_grantHead ?_ fun hsome => ?_, ?_⟩
  · simpa using (show ListsLawful _ _ ((toHold c i s).setSlots (s.drive.slots.erase c)).states from hnew)
  · simp only [setSlots_drive, toHold_frame] at hsome ⊢
    rw [List.length_erase_of_mem hmem, hfull hsome]
  · have hheld := h.records.toHold c i hopen
    exact RecordsLaw.grantHead (hheld.self (t := State.setSlots _ _)) (by simpa using hopen)

/-! ### Deliveries (R111 to R118) -/

theorem DriveInv.updateTarget (h : DriveInv s) (c : Corner) (i : Nat) : DriveInv (updateTarget c i s) := by
  unfold Machine.updateTarget
  dsimp only
  split
  · exact h
  · exact h
  · rename_i hhold
    split
    · exact h.requestBoost _ hhold
    · exact h.retarget c _
  · rename_i base hwait
    split
    · exact h.retarget c _
    · exact h.withdraw _ base hwait
  · rename_i timeout hboost
    split
    · have hopen : s.gate.isOpen = true := h.isOpen (c := c) (by rw [hboost]; rfl)
      refine (driveInv_iff _).mpr ⟨?_, (h.records.enter c _ _ rfl fun _ => hopen).of_bank (by simp) (by simp)⟩
      refine h.lists.of_states (by simp) (by simp) fun x => ?_
      refine (states_enter c x _ _ s).trans ?_
      split
      · rename_i hx
        rw [hx, hboost]
      · rfl
    · exact h.endBoost _ hboost

/-- A corner neither updated nor on the pending list keeps its record. -/
theorem corner_grantHead_other {d : Corner} (hd : d ∉ s.drive.waiting) : (grantHead s).corner d = s.corner d := by
  unfold grantHead
  split
  · rfl
  · rename_i e rest hwaiting
    rw [hwaiting, List.mem_cons, not_or] at hd
    split
    · rw [corner_toBoost, if_neg hd.1]
      rfl
    · rfl

theorem corner_requestBoost_other {d : Corner} (hd : d ≠ c) (i : Nat) :
    (requestBoost c i s).corner d = s.corner d := by
  unfold requestBoost
  split
  · rw [corner_toBoost, if_neg hd]
  · rw [corner_toWait, if_neg hd]

theorem corner_endBoost_other {d : Corner} (hd : d ≠ c) (hwaiting : d ∉ s.drive.waiting) (i : Nat) :
    (endBoost c i s).corner d = s.corner d := by
  unfold endBoost
  rw [corner_grantHead_other (by simpa using hwaiting), corner_setSlots, corner_toHold, if_neg hd]

theorem corner_updateTarget_other {d : Corner} (hd : d ≠ c) (hwaiting : d ∉ s.drive.waiting) (i : Nat) :
    (updateTarget c i s).corner d = s.corner d := by
  unfold updateTarget
  dsimp only
  split
  · rfl
  · rfl
  · split
    · exact corner_requestBoost_other hd _
    · rw [corner_retarget, if_neg hd]
  · split
    · rw [corner_retarget, if_neg hd]
    · rw [corner_toHold, if_neg hd]
      rfl
  · split
    · rw [corner_enter, if_neg hd]
    · exact corner_endBoost_other hd hwaiting _

/-- A corner in HOLD is left there by an update of another corner. -/
theorem DriveInv.holds_updateTarget {d : Corner} (h : DriveInv s) (hd : d ≠ c) (i : Nat)
    (hhold : (s.corner d).state = .hold) : ((Machine.updateTarget c i s).corner d).state = .hold := by
  rw [corner_updateTarget_other hd]
  · exact hhold
  · exact ((arbiterLaws_iff s).mp h.lists).1.not_mem_waiting (by simp [State.states, hhold])

end

/-! ### TOGETHER deliveries (R118) -/

theorem rankInsert_perm (step : Corner → Int) (c : Corner) (cs : List Corner) : (rankInsert step c cs).Perm (c :: cs) := by
  induction cs with
  | nil => exact .refl _
  | cons d ds ih =>
    unfold rankInsert
    split
    · exact .refl _
    · exact (ih.cons d).trans (.swap c d ds)

theorem rank_perm (step : Corner → Int) (cs : List Corner) : (rank step cs).Perm cs := by
  have hfold (ranked : List Corner) :
      (cs.foldl (fun ranked c => rankInsert step c ranked) ranked).Perm (cs.reverse ++ ranked) := by
    induction cs generalizing ranked with
    | nil => exact .refl _
    | cons c cs ih =>
      refine (ih _).trans ?_
      rw [List.reverse_cons, List.append_assoc]
      exact (rankInsert_perm step c ranked).append_left _
  refine (hfold []).trans ?_
  rw [List.append_nil]
  exact cs.reverse_perm

theorem mem_cornersIn (s : State) (targets : PerCorner Nat) (x : UpdateClass) (c : Corner) :
    c ∈ cornersIn s targets x ↔ classify s c (targets.get c) = x := by
  simp [cornersIn, mem_corners]

/-- Only a corner in HOLD asks for a boost in a TOGETHER delivery (R118 step 1). -/
theorem state_of_request {s : State} {c : Corner} {i : Nat} (h : classify s c i = .request) :
    (s.corner c).state = .hold := by
  unfold classify at h
  split at h
  · cases h
  · cases h
  · cases h
  · cases h
  · assumption

/-- The drive laws hold and these corners are in HOLD. -/
def DriveHolds (cs : List Corner) (s : State) : Prop := DriveInv s ∧ ∀ c ∈ cs, (s.corner c).state = .hold

theorem DriveHolds.updates {cs ds : List Corner} {s : State} (h : DriveHolds cs s) (targets : PerCorner Nat)
    (hdisjoint : ∀ c ∈ cs, c ∉ ds) : DriveHolds cs (ds.foldl (fun s c => updateTarget c (targets.get c) s) s) := by
  induction ds generalizing s with
  | nil => exact h
  | cons d ds ih =>
    obtain ⟨hlaw, hhold⟩ := h
    refine ih ⟨hlaw.updateTarget d _, fun c hc => ?_⟩ fun c hc hmem => hdisjoint c hc (List.mem_cons_of_mem d hmem)
    exact hlaw.holds_updateTarget (fun hcd => hdisjoint c hc (by simp [hcd])) _ (hhold c hc)

theorem DriveHolds.requests {cs : List Corner} {s : State} (h : DriveHolds cs s) (hnodup : cs.Nodup)
    (target : Corner → Nat) : DriveInv (cs.foldl (fun s c => requestBoost c (target c) s) s) := by
  induction cs generalizing s with
  | nil => exact h.1
  | cons c cs ih =>
    obtain ⟨hlaw, hhold⟩ := h
    obtain ⟨hnew, hnodup⟩ := List.nodup_cons.mp hnodup
    refine ih ⟨hlaw.requestBoost _ (hhold c (by simp)), fun d hd => ?_⟩ hnodup
    have hdc : d ≠ c := fun hdc => hnew (hdc ▸ hd)
    rw [corner_requestBoost_other hdc]
    exact hhold d (List.mem_cons_of_mem c hd)

theorem DriveInv.deliverTogether {s : State} (h : DriveInv s) (targets : PerCorner Nat) :
    DriveInv (deliverTogether targets s) := by
  have hperm := rank_perm (updateStep s targets) (cornersIn s targets .request)
  have hclass {c : Corner} (hc : c ∈ rank (updateStep s targets) (cornersIn s targets .request)) :
      classify s c (targets.get c) = .request := (mem_cornersIn s targets .request c).mp (hperm.mem_iff.mp hc)
  have hdisjoint (x : UpdateClass) (hx : x ≠ .request) (c : Corner)
      (hc : c ∈ rank (updateStep s targets) (cornersIn s targets .request)) : c ∉ cornersIn s targets x := fun hmem =>
    hx (((mem_cornersIn s targets x c).mp hmem).symm.trans (hclass hc))
  have hstart : DriveHolds (rank (updateStep s targets) (cornersIn s targets .request)) s :=
    ⟨h, fun c hc => state_of_request (hclass hc)⟩
  have hupdated := (hstart.updates targets (hdisjoint .waitUpdate (by simp))).updates targets
    (hdisjoint .direct (by simp))
  exact hupdated.requests (hperm.nodup_iff.mpr (corners_nodup.filter _)) _

theorem DriveInv.deliver {s : State} (h : DriveInv s) (b : Bank) (targets : PerCorner Nat) :
    DriveInv (deliver b targets s) := by
  have hcancelled : DriveInv (cancelStaggered s) := h.same { }
  unfold Machine.deliver
  dsimp only
  split
  · exact (hcancelled.updateTarget .fl targets.fl).same { corners := rfl, slots := rfl, waiting := rfl }
  · exact hcancelled.deliverTogether targets

end Sys2Proof.Machine

/-! The drive laws through measurements, the closing and opening of the gate, supply samples and swaps; every step keeps
them. -/

namespace Sys2Proof.Machine

/-! ### Faults and measurements (R108, R121, R131 to R133) -/

section
variable {s t : State} {c : Corner}

/-- A corner not in BOOST goes to FAULT, off the pending list. -/
theorem DriveInv.latchFault (h : DriveInv s) (hnot : ∀ timeout, (s.corner c).state ≠ .boost timeout) (x : FaultCause) :
    DriveInv (latchFault c x s) := by
  have hcause : DriveInv (s.setCorner c { s.corner c with cause := x }) := h.at_corner
  have hflagged : DriveInv (setFlag .cornerFault (s.setCorner c { s.corner c with cause := x })) := hcause.same { }
  have hnot' (timeout : Nat) :
      (setFlag .cornerFault (s.setCorner c { s.corner c with cause := x })).states c ≠ .boost timeout := by
    simpa [State.states] using hnot timeout
  unfold Machine.latchFault
  dsimp only
  generalize setFlag .cornerFault (s.setCorner c { s.corner c with cause := x }) = u at hflagged hnot' ⊢
  split
  · exact hflagged
  · refine (driveInv_iff _).mpr ⟨?_, ?_⟩
    · exact hflagged.lists.outside (c := c) (d := .fault) (by simp) (by simp)
        (fun y => by simpa [State.states] using states_enter c y .fault (s.corner c).target u) hnot' (by simp) (by simp)
    · have hentered := (hflagged.records.enter c .fault (s.corner c).target rfl (by simp [DriveState.isOff])).of_bank
        (r' := enter c .fault (s.corner c).target u) (by simp) (by simp)
      exact hentered.self

theorem DriveInv.setMonitor (h : DriveInv s) (m : MonitorRecord) : DriveInv (s.setMonitor c m) := h.same { }

theorem DriveInv.judgeDriven (h : DriveInv s) (hnot : ∀ timeout, (s.corner c).state ≠ .boost timeout) (m : Nat) :
    DriveInv (judgeDriven c m s) := by
  unfold Machine.judgeDriven
  dsimp only
  split
  · split
    · exact h.setMonitor _ |>.latchFault hnot _
    · exact h.setMonitor _
  · exact h.setMonitor _

theorem DriveInv.judgeOff (h : DriveInv s) (hnot : ∀ timeout, (s.corner c).state ≠ .boost timeout) (m : Nat) :
    DriveInv (judgeOff c m s) := by
  unfold Machine.judgeOff
  dsimp only
  split
  · split
    · exact (h.setMonitor _ |>.setMonitor _).latchFault hnot _
    · exact h.setMonitor _
  · exact h.setMonitor _

theorem DriveInv.judge (h : DriveInv s) (m : Nat) : DriveInv (judge c m s) := by
  unfold Machine.judge
  split
  · exact h
  · split
    · exact h.setMonitor _
    · split
      · exact h.same { }
      · exact h.judgeDriven (by simp_all) m
      · exact h.judgeDriven (by simp_all) m
      · exact h.judgeOff (by simp_all) m
      · exact h.judgeOff (by simp_all) m
      · exact h

theorem DriveInv.actOnMeasurement (h : DriveInv s) (m : Nat) : DriveInv (actOnMeasurement c m s) := by
  unfold Machine.actOnMeasurement
  split
  · rename_i timeout hboost
    split
    · exact h.endBoost _ hboost
    · exact h
  all_goals exact h.judge m

theorem DriveInv.startPeriods (h : DriveInv s) : DriveInv (startPeriods s) := by
  refine (driveInv_iff _).mpr ⟨h.lists.of_states (by simp) (by simp) fun x => by simp [startPeriod], ?_, fun d => ?_⟩
  · simpa [startPeriod] using h.records.powered
  · obtain ⟨hduty, -⟩ := h.records.formed d
    rw [startPeriods_corner, RecordLaw, dutyOf_of (s := s) (by simp) (by simp)]
    refine ⟨hduty, ?_, fun hoff => ?_⟩
    · simp only [startPeriod, hduty]
      exact dutyOf_le s d _ _
    · simp only [startPeriod] at hoff ⊢
      rw [hduty]
      rcases hoff with hoff | hoff <;> rw [hoff] <;> rfl

theorem DriveInv.runPeriod (h : DriveInv s) : DriveInv (runPeriod c s) := by
  unfold Machine.runPeriod
  split
  · exact h.startPeriods
  · exact h

theorem DriveInv.endPeriod (h : DriveInv s) : DriveInv (endPeriod c s) := by
  have hmarked : DriveInv (s.setCorner c { s.corner c with periodEnded := true }) := h.at_corner
  unfold Machine.endPeriod
  dsimp only
  split
  · exact hmarked.startPeriods
  · exact hmarked

end

/-! ### The closing of the gate -/

/-- The drive laws with the duties formed in `r`. -/
structure DriveFormedIn (r s : State) : Prop where
  lists : ArbiterLaws s
  records : RecordsLaw r s

section
variable {r s t : State} {c : Corner}

theorem DriveInv.formedIn (h : DriveInv s) : DriveFormedIn s s := ⟨h.lists, h.records⟩

theorem DriveFormedIn.driveInv (h : DriveFormedIn s s) : DriveInv s := (driveInv_iff s).mpr ⟨h.lists, h.records⟩

theorem DriveFormedIn.of_bank {r' : State} (h : DriveFormedIn r s) (hactive : r'.tables.active = r.tables.active := by simp)
    (hsample : r'.supply.sample = r.supply.sample := by simp) : DriveFormedIn r' s :=
  ⟨h.lists, h.records.of_bank hactive hsample⟩

theorem DriveFormedIn.of_agree (h : DriveFormedIn r s) (hcorners : t.drive.corners = s.drive.corners := by simp)
    (hslots : t.drive.slots = s.drive.slots := by simp) (hwaiting : t.drive.waiting = s.drive.waiting := by simp)
    (hgate : t.gate = s.gate := by simp) : DriveFormedIn r t :=
  ⟨h.lists.of_states hslots hwaiting fun x => by rw [State.corner, hcorners, State.corner],
    h.records.of_agree hcorners hgate⟩

theorem corner_closeGate {x : CloseCause} (hopen : s.gate.isOpen = true) :
    (closeGate x s).corner c =
      if (s.corner c).state.isDriven then { s.corner c with state := .off, duty := 0, outputDuty := 0 }
      else s.corner c := by
  have hboth := congrArg Prod.fst (both_closeGate x hopen c)
  rw [apply_ite Prod.fst] at hboth
  exact hboth

theorem state_closeGate_of_open {x : CloseCause} (hopen : s.gate.isOpen = true) :
    ((closeGate x s).corner c).state = .off ∨ ((closeGate x s).corner c).state = .fault := by
  rw [corner_closeGate hopen]
  split
  · exact .inl rfl
  · rename_i hnot
    rwa [isDriven_iff, not_not] at hnot

/-- With every corner in OFF or FAULT, and both lists empty, the arbiter's laws hold. -/
theorem arbiterLaws_of_off (hslots : t.drive.slots = []) (hwaiting : t.drive.waiting = [])
    (hoff : ∀ c, (t.corner c).state = .off ∨ (t.corner c).state = .fault) : ArbiterLaws t := by
  refine ⟨by simp [hslots], fun c => ?_, by simp [hslots], by simp [hwaiting], fun c => ?_, by simp [hwaiting]⟩
  · rcases hoff c with h | h <;> simp [hslots, h]
  · rcases hoff c with h | h <;> simp [hwaiting, h]

/-- A close request keeps the laws, whatever bank the duties were formed in: a corner it switches off has duty 0. -/
theorem DriveFormedIn.closeGate (h : DriveFormedIn r s) (x : CloseCause) : DriveFormedIn r (closeGate x s) := by
  cases hopen : s.gate.isOpen with
  | false =>
    rw [closeGate_closed x hopen]
    exact h
  | true =>
    obtain ⟨hslots, hwaiting, -⟩ := closeGate_lists x hopen
    have hoff (c : Corner) := state_closeGate_of_open (c := c) (x := x) hopen
    refine ⟨arbiterLaws_of_off hslots hwaiting hoff, fun _ => hoff, fun c => ?_⟩
    rw [corner_closeGate hopen]
    split
    · exact ⟨rfl, Nat.zero_le _, fun _ => rfl⟩
    · exact h.records.formed c

theorem DriveInv.closeGate (h : DriveInv s) (x : CloseCause) : DriveInv (closeGate x s) :=
  ((h.formedIn.closeGate x).of_bank).driveInv

theorem DriveFormedIn.judgeSupply (h : DriveFormedIn r s) : DriveFormedIn r (judgeSupply s) := by
  have hlow : DriveFormedIn r (judgeLow s) := h.of_agree
  unfold Machine.judgeSupply judgeCut
  split
  · exact DriveFormedIn.closeGate (s := setFlag .supplyCut (judgeLow s)) hlow.of_agree _
  · exact hlow

theorem DriveFormedIn.reselect (h : DriveFormedIn r s) : DriveFormedIn r (reselect s) := by
  unfold Machine.reselect
  split
  · exact h
  · split
    · exact h.of_agree
    · have hunselected : DriveFormedIn r { s with timing := { s.timing with selected := none } } := h.of_agree rfl rfl rfl rfl
      exact (hunselected.closeGate .marksSilent).of_agree (by simp [loseSource, closeForSilence])
        (by simp [loseSource, closeForSilence]) (by simp [loseSource, closeForSilence])
        (by simp [loseSource, closeForSilence])

/-! ### Supply samples (R110, R139) -/

/-- A record whose duty is formed anew where that of its state depends on the bank and the sample. -/
theorem RecordLaw.reform {x y : DriveRecord} (h : RecordLaw r c x) (hstate : y.state = x.state)
    (houtput : y.outputDuty = x.outputDuty)
    (hduty : y.duty = if x.state.isHeld then feedForward t c y.target else x.duty) : RecordLaw t c y := by
  obtain ⟨hformed, hle, hoff⟩ := h
  refine ⟨?_, houtput ▸ hle, by rwa [hstate, houtput]⟩
  rw [hduty, hstate, hformed]
  cases x.state <;> rfl

theorem DriveFormedIn.reformDuties (h : DriveFormedIn r s) : DriveInv (reformDuties s) := by
  have hstate (c : Corner) : ((Machine.reformDuties s).corner c).state = (s.corner c).state := by
    rw [corner_reformDuties, reformed]
    split <;> rfl
  have hlists : (Machine.reformDuties s).drive.slots = s.drive.slots ∧
      (Machine.reformDuties s).drive.waiting = s.drive.waiting := by simp [reformDuties_eq, State.setRecords]
  obtain ⟨hslots, hwaiting⟩ := hlists
  refine (driveInv_iff _).mpr ⟨h.lists.of_states hslots hwaiting hstate, fun hclosed c => ?_, fun c => ?_⟩
  · rw [hstate]
    exact h.records.powered (by simpa using hclosed) c
  · refine RecordLaw.of_bank (r := s) ?_ (by simp) (by simp)
    rw [corner_reformDuties]
    refine (h.records.formed c).reform ?_ ?_ ?_ <;> unfold reformed <;> split <;> rfl

/-- With the gate CLOSED no duty depends on the bank or the sample. -/
theorem DriveFormedIn.driveInv_of_closed (h : DriveFormedIn r s) (hclosed : s.gate.isOpen = false) : DriveInv s := by
  refine (driveInv_iff _).mpr ⟨h.lists, h.records.powered, fun c => ?_⟩
  have hoff := h.records.powered hclosed c
  refine (h.records.formed c).reform rfl rfl ?_
  rcases hoff with hoff | hoff <;> rw [hoff] <;> rfl

theorem DriveInv.sampled (h : DriveInv s) (v : Nat) : DriveInv (actOnSample (keepSample v s)) := by
  have hkept : DriveFormedIn s (keepSample v s) := h.formedIn.of_agree rfl rfl rfl rfl
  have hacts {u : State} (hu : DriveFormedIn s u) : DriveInv (if u.gate.isOpen then Machine.reformDuties u else u) := by
    split
    · exact hu.reformDuties
    · rename_i hclosed
      exact hu.driveInv_of_closed (by simpa using hclosed)
  refine hacts ?_
  split
  · exact hkept.judgeSupply
  · exact hkept

end

/-! ### The swap (R127, R142) -/

/-- A drive record after the swap's clamp of its target (R127 steps 1 and 3). -/
def swappedRecord (s : State) (c : Corner) : DriveRecord :=
  if (s.corner c).state.isHeld then
    { s.corner c with
      target := s.tables.active.clampCurrent c (s.corner c).target
      duty := feedForward s c (s.tables.active.clampCurrent c (s.corner c).target) }
  else { s.corner c with target := s.tables.active.clampCurrent c (s.corner c).target }

theorem corner_swapCorner (c d : Corner) (s : State) :
    (swapCorner c s).corner d = if d = c then swappedRecord s c else s.corner d := by
  unfold swapCorner swappedRecord
  dsimp only
  split
  · rename_i hheld
    obtain ⟨hduty, hon⟩ := held_duty hheld s c (s.tables.active.clampCurrent c (s.corner c).target)
    rw [corner_retarget, hduty, hon]
    rfl
  · exact corner_setCorner _ _ _ _

theorem swappedRecord_of {s t : State} {c : Corner} (hcorner : t.corner c = s.corner c) (htables : t.tables = s.tables)
    (hsupply : t.supply = s.supply) : swappedRecord t c = swappedRecord s c := by
  rw [swappedRecord, swappedRecord, hcorner, htables,
    feedForward_of (congrArg Tables.active htables) (congrArg Supply.sample hsupply)]

/-- A swap that changes T4 clamps every target and forms the held corners' duties anew. -/
theorem corner_swapDrive {o : Tables} {s : State} (hchanged : o.active.t4 ≠ s.tables.active.t4) (c : Corner) :
    (swapDrive o s).corner c = swappedRecord s c := by
  unfold swapDrive
  rw [if_neg hchanged]
  obtain ⟨s', ⟨htables, hsupply⟩, hcorner, hfold⟩ := foldl_corner_at State.corner (fun s' c => swapCorner c s')
    (fun s c d hd => by rw [corner_swapCorner, if_neg hd])
    (fun s' => s'.tables = s.tables ∧ s'.supply = s.supply) (fun s' c hs => by simpa using hs)
    corners corners_nodup s ⟨rfl, rfl⟩ c (mem_corners c)
  refine hfold.trans ?_
  rw [corner_swapCorner, if_pos rfl]
  exact swappedRecord_of hcorner htables hsupply

theorem state_swappedRecord (s : State) (c : Corner) : (swappedRecord s c).state = (s.corner c).state := by
  unfold swappedRecord
  split <;> rfl

/-- A swap that leaves T4 as it was leaves the resistances (R150). -/
theorem dutyOf_of_t4 {r s : State} (ht4 : s.tables.active.t4 = r.tables.active.t4)
    (hsample : s.supply.sample = r.supply.sample) (c : Corner) (d : DriveState) (i : Nat) :
    dutyOf s c d i = dutyOf r c d i := by
  have hresistance : s.tables.active.resistance c = r.tables.active.resistance c := by
    cases c <;> simp only [Bank.resistance, ht4]
  cases d <;> simp only [dutyOf, feedForward, hresistance, hsample]

theorem DriveFormedIn.swapDrive {r u : State} (h : DriveFormedIn r u) (hsample : u.supply.sample = r.supply.sample) :
    DriveInv (swapDrive r.tables u) := by
  by_cases ht4 : r.tables.active.t4 = u.tables.active.t4
  · have hsame : Machine.swapDrive r.tables u = u := if_pos ht4
    rw [hsame]
    refine (driveInv_iff _).mpr ⟨h.lists, h.records.powered, fun c => ?_⟩
    have hc := h.records.formed c
    rwa [RecordLaw, ← dutyOf_of_t4 ht4.symm hsample] at hc
  · have hstate (c : Corner) : ((Machine.swapDrive r.tables u).corner c).state = (u.corner c).state := by
      rw [corner_swapDrive ht4, state_swappedRecord]
    refine (driveInv_iff _).mpr ⟨h.lists.of_states (by simp) (by simp) hstate, fun hclosed c => ?_, fun c => ?_⟩
    · rw [hstate]
      exact h.records.powered (by simpa using hclosed) c
    · refine RecordLaw.of_bank (r := u) ?_ (by simp) (by simp)
      rw [corner_swapDrive ht4]
      refine (h.records.formed c).reform (state_swappedRecord u c) ?_ ?_ <;> unfold swappedRecord <;> split <;> rfl

theorem DriveFormedIn.swapSupply {r s : State} (h : DriveFormedIn r s) (o : Tables) : DriveFormedIn r (swapSupply o s) := by
  unfold Machine.swapSupply
  split
  · exact h
  · exact h.judgeSupply

/-- Before the Drive Unit's side effects a swap has acted on the records by the gate alone. -/
theorem DriveFormedIn.swapPreview {r s : State} (h : DriveFormedIn r s) :
    DriveFormedIn r (swapPreview s.tables (swapTiming s.tables (swapCapture s.tables (copyStaged s)))) := by
  have hsilenced (p : PerSource SourceState) :
      DriveFormedIn r ((swapCapture s.tables (copyStaged s)).setSources p) := h.of_agree
  have htiming : DriveFormedIn r (swapTiming s.tables (swapCapture s.tables (copyStaged s))) := (hsilenced _).reselect
  exact htiming.of_agree

theorem DriveInv.performSwap {s : State} (h : DriveInv s) : DriveInv (performSwap s) := by
  have hdrive := h.formedIn.swapPreview.swapDrive (by simp)
  have hsupply := hdrive.formedIn.swapSupply s.tables
  have hjudged := (hsupply.of_bank (r' := Machine.swapSupply s.tables (Machine.swapDrive s.tables _))).driveInv
  have hlast (u : State) : SameDrive u (swapMonitor s.tables u) := { }
  exact hjudged.same (hlast _)

/-! ### Opening the gate, clearing faults, resets -/

theorem DriveInv.openGate {s : State} (h : DriveInv s) : DriveInv (openGate s) := by
  have hopened : DriveInv { s with gate := { s.gate with isOpen := true } } := by
    refine (driveInv_iff _).mpr ⟨h.lists.of_states rfl rfl fun _ => rfl, ?_, h.records.formed⟩
    intro hclosed
    cases hclosed
  refine (List.foldlRecOn (motive := fun s => DriveInv s ∧ s.gate.isOpen = true) corners _ ⟨hopened, rfl⟩
    fun s ⟨h, hopen⟩ c _ => ?_).1
  split
  · rename_i hoff
    exact ⟨h.toHold_of_off _ (by rw [hoff]; rfl) hopen, by simpa using hopen⟩
  · exact ⟨h, hopen⟩

theorem DriveInv.clearFault {s : State} (h : DriveInv s) (c : Corner) : DriveInv (clearFault c s) := by
  have hcounts : DriveInv (clearCounts c s) := (h.setMonitor (c := c) _).at_corner
  have hstate : ((clearCounts c s).corner c).state = (s.corner c).state := by rw [corner_clearCounts, if_pos rfl]
  rw [clearFault_eq]
  split
  · rename_i hfault
    split
    · rename_i hopen
      exact hcounts.toHold_of_off _ (by rw [hstate, hfault]; rfl) (by simpa using hopen)
    · exact hcounts.toOff_of_fault (by rw [hstate, hfault])
  · exact hcounts

theorem DriveInv.clearNamed {s : State} (h : DriveInv s) (w : Word) : DriveInv (clearNamed w s) :=
  List.foldlRecOn (motive := DriveInv) (maskCorners w) _ h fun _ h c _ => h.clearFault c

/-- Records at their reset values keep the laws. -/
theorem driveInv_of_off {s : State} (hslots : s.drive.slots = []) (hwaiting : s.drive.waiting = [])
    (hcorner : ∀ c, (s.corner c).state = .off ∧ (s.corner c).duty = 0 ∧ (s.corner c).outputDuty = 0) : DriveInv s := by
  refine (driveInv_iff s).mpr ⟨arbiterLaws_of_off hslots hwaiting fun c => .inl (hcorner c).1, fun _ c => .inl (hcorner c).1,
    fun c => ?_⟩
  obtain ⟨hstate, hduty, houtput⟩ := hcorner c
  rw [RecordLaw, hstate, hduty, houtput]
  exact ⟨rfl, Nat.zero_le _, fun _ => rfl⟩

theorem driveInv_kept : DriveKeeps (fun _ => True) (fun _ => True) DriveInv where
  dequeued _ _ := trivial
  pends _ _ := trivial
  passes _ _ := trivial
  same hsame h := h.same hsame
  closed x h := h.closeGate x
  swapped _ h := h.performSwap
  updated c i _ _ h := h.updateTarget c i
  delivered b ts _ _ h := h.deliver b ts
  boostExpired := by
    intro s c timeout hboost _ h
    have hcounted : DriveInv (countTimeout c s) := h.at_corner
    have hflagged : DriveInv (setFlag .boostTimeout (countTimeout c s)) := hcounted.same { }
    exact hflagged.endBoost (timeout := timeout) _ (by simpa [countTimeout] using hboost)
  measured c m _ h := by
    have hmeasured : DriveInv (keepMeasurement c m (runPeriod c _)) := h.runPeriod.at_corner
    exact (hmeasured.actOnMeasurement m).endPeriod
  sampled v _ h := h.sampled v
  opened _ _ _ h := h.openGate
  cleared w _ _ h := h.clearNamed w
  restarted _ := driveInv_of_off rfl rfl fun c => by cases c <;> exact ⟨rfl, rfl, rfl⟩
  reset _ _ _ := driveInv_of_off rfl rfl fun c => by cases c <;> exact ⟨rfl, rfl, rfl⟩
  started h := h.startPeriods

/-- Settles O55: both laws, one event at a time. -/
theorem stepsKeepTheBoostLaws : Obligations.StepsKeepTheBoostLaws :=
  ⟨fun _ _ => driveInv_kept.events.step trivial, fun _ _ => periodInv_kept.events.step trivial⟩

end Sys2Proof.Machine

/-! Every driven corner's target lies in the range of its axle in ACTIVE (R127), kept by every step. -/

namespace Sys2Proof.Machine

/-- Each axle's fallback current lies in its range (R150, R156). -/
def Bank.Ordered (b : Bank) : Prop := ∀ x, b.iMin x ≤ b.iFallback x ∧ b.iFallback x ≤ b.iMax x

theorem ordered_of_validated {b : Bank} (h : b.validated) : b.Ordered := by
  obtain ⟨-, hpasses⟩ := h
  rw [validate_eq_none_iff] at hpasses
  obtain ⟨-, -, -, -, ht4, -⟩ := hpasses
  have h6 := ht4 6 (by decide)
  have h9 := ht4 9 (by decide)
  simp only [checkT4, within, Bool.and_eq_true, decide_eq_true_eq] at h6 h9
  intro x
  cases x
  · exact h6.2
  · exact h9.2

/-- A current lies in the range of a corner's axle. -/
def Bank.Admits (b : Bank) (c : Corner) (i : Nat) : Prop := b.iMin (axleOf c) ≤ i ∧ i ≤ b.iMax (axleOf c)

theorem clampNat_bounds {lo hi : Nat} (h : lo ≤ hi) (x : Nat) : lo ≤ clampNat lo hi x ∧ clampNat lo hi x ≤ hi := by
  unfold clampNat
  split_ifs <;> omega

theorem Bank.Ordered.admits_clamp {b : Bank} (h : b.Ordered) (c : Corner) (i : Nat) :
    b.Admits c (b.clampCurrent c i) :=
  clampNat_bounds ((h (axleOf c)).1.trans (h (axleOf c)).2) i

/-- Every driven corner's target lies in the range of its axle in this bank. -/
def TargetsIn (b : Bank) (s : State) : Prop :=
  ∀ c, (s.corner c).state.isDriven = true → b.Admits c (s.corner c).target

section
variable {b : Bank} {s t : State} {c : Corner}

theorem TargetsIn.of_records (h : TargetsIn b s) (hstate : ∀ c, (t.corner c).state = (s.corner c).state)
    (htarget : ∀ c, (t.corner c).target = (s.corner c).target) : TargetsIn b t := fun c hdriven => by
  rw [htarget]
  exact h c (by rwa [hstate] at hdriven)

theorem TargetsIn.of_agree (h : TargetsIn b s) (hcorners : t.drive.corners = s.drive.corners := by simp) :
    TargetsIn b t :=
  h.of_records (fun c => by rw [State.corner, hcorners, State.corner]) fun c => by rw [State.corner, hcorners, State.corner]

theorem TargetsIn.at_corner {x : DriveRecord} (h : TargetsIn b s)
    (hcorner : ∀ d, t.corner d = if d = c then x else s.corner d)
    (hx : x.state.isDriven = true → b.Admits c x.target) : TargetsIn b t := fun d hdriven => by
  rw [hcorner] at hdriven ⊢
  split
  · rename_i hd
    rw [if_pos hd] at hdriven
    rw [hd]
    exact hx hdriven
  · rename_i hd
    rw [if_neg hd] at hdriven
    exact h d hdriven

theorem TargetsIn.setCorner {x : DriveRecord} (h : TargetsIn b s) (hstate : x.state = (s.corner c).state := by rfl)
    (htarget : x.target = (s.corner c).target := by rfl) : TargetsIn b (s.setCorner c x) :=
  h.at_corner (fun d => corner_setCorner s c d x) fun hdriven => by
    rw [htarget]
    exact h c (hstate ▸ hdriven)

theorem targetsIn_of_off (h : ∀ c, (s.corner c).state = .off ∨ (s.corner c).state = .fault) : TargetsIn b s :=
  fun c hdriven => absurd (h c) ((isDriven_iff _).mp hdriven)

/-! ### Deliveries -/

theorem TargetsIn.enter (h : TargetsIn b s) {i : Nat} (d : DriveState) (hi : d.isDriven = true → b.Admits c i) :
    TargetsIn b (enter c d i s) := h.at_corner (fun x => corner_enter c x d i s) hi

theorem TargetsIn.toHold (h : TargetsIn b s) {i : Nat} (hi : b.Admits c i) : TargetsIn b (toHold c i s) :=
  h.at_corner (fun x => corner_toHold c x i s) fun _ => hi

theorem TargetsIn.toBoost (h : TargetsIn b s) {i : Nat} (hi : b.Admits c i) : TargetsIn b (toBoost c i s) :=
  h.at_corner (fun x => corner_toBoost c x i s) fun _ => hi

theorem TargetsIn.toWait (h : TargetsIn b s) {i : Nat} (hi : b.Admits c i) : TargetsIn b (toWait c i s) :=
  h.at_corner (fun x => corner_toWait c x i s) fun _ => hi

theorem TargetsIn.retarget (h : TargetsIn b s) {i : Nat} (hi : b.Admits c i) : TargetsIn b (retarget c i s) :=
  h.at_corner (fun x => corner_retarget c x i s) fun _ => hi

theorem TargetsIn.requestBoost (h : TargetsIn b s) {i : Nat} (hi : b.Admits c i) : TargetsIn b (requestBoost c i s) := by
  unfold Machine.requestBoost
  split
  · exact h.toBoost hi
  · exact h.toWait hi

/-- The head of the pending list takes a slot at the target it holds (R117). -/
theorem TargetsIn.grantHead (h : TargetsIn b s) (hwaiting : ∀ d ∈ s.drive.waiting, (s.corner d).state.isDriven = true) :
    TargetsIn b (grantHead s) := by
  unfold Machine.grantHead
  split
  · exact h
  · rename_i d rest hlist
    split
    · have hheld : TargetsIn b (s.setWaiting rest) := h.of_agree
      exact hheld.toBoost (h d (hwaiting d (by simp [hlist])))
    · exact h

theorem TargetsIn.endBoost (h : TargetsIn b s) {i : Nat} (hi : b.Admits c i) (hlaw : DriveInv s) :
    TargetsIn b (endBoost c i s) := by
  have hlists := ((arbiterLaws_iff s).mp hlaw.lists).1
  have hfreed : TargetsIn b ((Machine.toHold c i s).setSlots (s.drive.slots.erase c)) := (h.toHold hi).of_agree
  have heq : Machine.endBoost c i s = Machine.grantHead ((Machine.toHold c i s).setSlots (s.drive.slots.erase c)) := by
    simp [Machine.endBoost]
  rw [heq]
  refine hfreed.grantHead fun d hd => ?_
  obtain ⟨base, hwaits⟩ := (hlists.mem_waiting d).mp (by simpa using hd)
  have hwaits : (s.corner d).state = .wait base := hwaits
  rw [corner_setSlots, corner_toHold]
  split
  · rfl
  · rw [hwaits]
    rfl

theorem TargetsIn.updateTarget (h : TargetsIn s.tables.active s) (hlaw : DriveInv s)
    (hordered : s.gate.isOpen = true → s.tables.active.Ordered) (c : Corner) (i : Nat) :
    TargetsIn s.tables.active (updateTarget c i s) := by
  have hclamp (hdriven : (s.corner c).state.isDriven = true) :
      s.tables.active.Admits c (s.tables.active.clampCurrent c i) :=
    (hordered (hlaw.isOpen hdriven)).admits_clamp c i
  unfold Machine.updateTarget
  dsimp only
  split
  · exact h
  · exact h
  · rename_i hhold
    have hi := hclamp (by rw [hhold]; rfl)
    split
    · exact h.requestBoost hi
    · exact h.retarget hi
  · rename_i base hwait
    have hi := hclamp (by rw [hwait]; rfl)
    split
    · exact h.retarget hi
    · have hremoved : TargetsIn s.tables.active (s.setWaiting (s.drive.waiting.erase c)) := h.of_agree
      exact hremoved.toHold hi
  · rename_i timeout hboost
    have hi := hclamp (by rw [hboost]; rfl)
    split
    · exact h.enter _ fun _ => hi
    · exact h.endBoost hi hlaw

end

/-! ### The laws a target's range rests on -/

/-- Driven targets in range, with what keeps them there: the drive laws, and an ordered bank while the gate is OPEN. -/
structure TargetLaw (s : State) : Prop where
  drive : DriveInv s
  ordered : s.gate.isOpen = true → s.tables.active.Ordered
  targets : TargetsIn s.tables.active s

section
variable {s t : State} {c : Corner}

theorem TargetLaw.same (h : TargetLaw s) (hsame : SameDrive s t) : TargetLaw t where
  drive := h.drive.same hsame
  ordered hopen := by
    rw [hsame.active]
    exact h.ordered (hsame.gate ▸ hopen)
  targets := by
    rw [hsame.active]
    exact h.targets.of_agree hsame.corners

theorem TargetLaw.updateTarget (h : TargetLaw s) (c : Corner) (i : Nat) : TargetLaw (updateTarget c i s) where
  drive := h.drive.updateTarget c i
  ordered := by simpa using h.ordered
  targets := by simpa using h.targets.updateTarget h.drive h.ordered c i

theorem TargetLaw.deliverTogether (h : TargetLaw s) (targets : PerCorner Nat) : TargetLaw (deliverTogether targets s) where
  drive := h.drive.deliverTogether targets
  ordered := by simpa using h.ordered
  targets := by
    have hupdates (cs : List Corner) {u : State} (hu : TargetLaw u ∧ u.tables = s.tables) :
        TargetLaw (cs.foldl (fun s c => Machine.updateTarget c (targets.get c) s) u) ∧
          (cs.foldl (fun s c => Machine.updateTarget c (targets.get c) s) u).tables = s.tables :=
      List.foldlRecOn (motive := fun u => TargetLaw u ∧ u.tables = s.tables) cs _ hu fun u hu c _ =>
        ⟨hu.1.updateTarget c _, by simpa using hu.2⟩
    obtain ⟨hlaw, htables⟩ := hupdates (cornersIn s targets .direct) (hupdates (cornersIn s targets .waitUpdate) ⟨h, rfl⟩)
    have hranged := hlaw.targets
    rw [htables] at hranged
    rw [show (Machine.deliverTogether targets s).tables = s.tables by simp]
    refine List.foldlRecOn (motive := TargetsIn s.tables.active) _ _ hranged fun u hu c hc => hu.requestBoost ?_
    have hrequest := (mem_cornersIn s targets .request c).mp ((rank_perm _ _).mem_iff.mp hc)
    have hhold := state_of_request hrequest
    exact (h.ordered (h.drive.isOpen (c := c) (by rw [hhold]; rfl))).admits_clamp c _

theorem TargetLaw.deliver (h : TargetLaw s) (b : Bank) (targets : PerCorner Nat) : TargetLaw (deliver b targets s) := by
  have hcancelled : TargetLaw (cancelStaggered s) := h.same { }
  unfold Machine.deliver
  dsimp only
  split
  · exact (hcancelled.updateTarget .fl targets.fl).same { corners := rfl, slots := rfl, waiting := rfl }
  · exact hcancelled.deliverTogether targets

/-! ### Measurements and samples -/

theorem corner_latchFault (c d : Corner) (x : FaultCause) (s : State) :
    (latchFault c x s).corner d =
      if d = c then
        if (s.corner c).state = .fault then { s.corner c with cause := x }
        else { s.corner c with state := .fault, duty := 0, outputDuty := 0, cause := x }
      else s.corner d := by
  unfold latchFault
  dsimp only
  split
  · rw [corner_setFlag, corner_setCorner]
  · rw [corner_startSettling, corner_abortTest, corner_setWaiting, corner_enter, corner_setFlag, corner_setFlag,
      corner_setCorner_same, corner_setCorner]
    split <;> rfl

theorem TargetsIn.latchFault {b : Bank} (h : TargetsIn b s) (c : Corner) (x : FaultCause) :
    TargetsIn b (latchFault c x s) :=
  h.at_corner (fun d => corner_latchFault c d x s) fun hdriven => by
    split at hdriven
    · rename_i hfault
      rw [isDriven_iff] at hdriven
      exact absurd (.inr hfault) hdriven
    · cases hdriven

theorem TargetsIn.judge {b : Bank} (h : TargetsIn b s) (c : Corner) (m : Nat) : TargetsIn b (judge c m s) := by
  have hset {s : State} (h : TargetsIn b s) (x : MonitorRecord) : TargetsIn b (s.setMonitor c x) := h.of_agree
  have hdriven : TargetsIn b (judgeDriven c m s) := by
    unfold judgeDriven
    dsimp only
    split
    · split
      · exact (hset h _).latchFault c _
      · exact hset h _
    · exact hset h _
  have hoff : TargetsIn b (judgeOff c m s) := by
    unfold judgeOff
    dsimp only
    split
    · split
      · exact (hset (hset h _) _).latchFault c _
      · exact hset h _
    · exact hset h _
  unfold Machine.judge
  split
  · exact h
  · split
    · exact hset h _
    · split
      · exact h.of_agree
      · exact hdriven
      · exact hdriven
      · exact hoff
      · exact hoff
      · exact h

theorem TargetLaw.actOnMeasurement (h : TargetLaw s) (c : Corner) (m : Nat) : TargetLaw (actOnMeasurement c m s) where
  drive := h.drive.actOnMeasurement m
  ordered := by simpa using h.ordered
  targets := by
    rw [show (Machine.actOnMeasurement c m s).tables = s.tables by simp]
    unfold Machine.actOnMeasurement
    split
    · rename_i timeout hboost
      split
      · exact h.targets.endBoost (h.targets c (by rw [hboost]; rfl)) h.drive
      · exact h.targets
    all_goals exact h.targets.judge c m

theorem TargetLaw.startPeriods (h : TargetLaw s) : TargetLaw (startPeriods s) where
  drive := h.drive.startPeriods
  ordered := by simpa using h.ordered
  targets := by
    rw [show (Machine.startPeriods s).tables = s.tables by simp]
    exact h.targets.of_records (by simp [startPeriod]) (by simp [startPeriod])

theorem TargetLaw.runPeriod (h : TargetLaw s) (c : Corner) : TargetLaw (runPeriod c s) := by
  unfold Machine.runPeriod
  split
  · exact h.startPeriods
  · exact h

theorem TargetLaw.setCorner {x : DriveRecord} (h : TargetLaw s) (hstate : x.state = (s.corner c).state := by rfl)
    (htarget : x.target = (s.corner c).target := by rfl) (hduty : x.duty = (s.corner c).duty := by rfl)
    (houtput : x.outputDuty = (s.corner c).outputDuty := by rfl) : TargetLaw (s.setCorner c x) where
  drive := h.drive.at_corner hstate htarget hduty houtput
  ordered := h.ordered
  targets := h.targets.setCorner hstate htarget

theorem TargetLaw.endPeriod (h : TargetLaw s) (c : Corner) : TargetLaw (endPeriod c s) := by
  have hmarked : TargetLaw (s.setCorner c { s.corner c with periodEnded := true }) := h.setCorner
  unfold Machine.endPeriod
  dsimp only
  split
  · exact hmarked.startPeriods
  · exact hmarked

theorem TargetsIn.closeGate {b : Bank} (h : TargetsIn b s) (x : CloseCause) : TargetsIn b (closeGate x s) := by
  cases hopen : s.gate.isOpen with
  | false => rwa [closeGate_closed x hopen]
  | true => exact targetsIn_of_off fun _ => state_closeGate_of_open hopen

theorem TargetsIn.judgeSupply {b : Bank} (h : TargetsIn b s) : TargetsIn b (judgeSupply s) := by
  have hlow : TargetsIn b (judgeLow s) := h.of_agree
  unfold Machine.judgeSupply judgeCut
  split
  · exact TargetsIn.closeGate (s := setFlag .supplyCut (judgeLow s)) hlow.of_agree _
  · exact hlow

theorem TargetsIn.reformDuties {b : Bank} (h : TargetsIn b s) : TargetsIn b (reformDuties s) :=
  h.of_records (fun c => by rw [corner_reformDuties, reformed]; split <;> rfl)
    fun c => by rw [corner_reformDuties, reformed]; split <;> rfl

theorem TargetLaw.sampled (h : TargetLaw s) (v : Nat) : TargetLaw (actOnSample (keepSample v s)) where
  drive := h.drive.sampled v
  ordered hopen := by
    rw [show (actOnSample (keepSample v s)).tables = s.tables by simp [keepSample]]
    have hbefore : (keepSample v s).gate.isOpen = true := actOnSample_open hopen
    exact h.ordered hbefore
  targets := by
    rw [show (actOnSample (keepSample v s)).tables = s.tables by simp [keepSample]]
    have hkept : TargetsIn s.tables.active (keepSample v s) := h.targets.of_agree rfl
    have hacts {u : State} (hu : TargetsIn s.tables.active u) :
        TargetsIn s.tables.active (if u.gate.isOpen then Machine.reformDuties u else u) := by
      split
      · exact hu.reformDuties
      · exact hu
    refine hacts ?_
    split
    · exact hkept.judgeSupply
    · exact hkept

/-! ### The gate, the swap and the resets -/

theorem TargetLaw.closeGate (h : TargetLaw s) (x : CloseCause) : TargetLaw (closeGate x s) where
  drive := h.drive.closeGate x
  ordered := by simp
  targets := by simpa using h.targets.closeGate x

theorem TargetsIn.reselect {b : Bank} (h : TargetsIn b s) : TargetsIn b (reselect s) := by
  unfold Machine.reselect
  split
  · exact h
  · split
    · exact h.of_agree
    · have hunselected : TargetsIn b { s with timing := { s.timing with selected := none } } := h.of_agree rfl
      exact (hunselected.closeGate .marksSilent).of_agree (by simp [loseSource, closeForSilence])

theorem TargetsIn.swapDrive {o : Tables} (h : TargetsIn o.active s) (hordered : s.tables.active.Ordered) :
    TargetsIn s.tables.active (swapDrive o s) := by
  by_cases ht4 : o.active.t4 = s.tables.active.t4
  · have hsame : Machine.swapDrive o s = s := if_pos ht4
    rw [hsame]
    intro c hdriven
    have hc := h c hdriven
    cases hc' : axleOf c <;> simpa only [Bank.Admits, Bank.iMin, Bank.iMax, ht4, hc'] using hc
  · intro c hdriven
    rw [corner_swapDrive ht4]
    have htarget : (swappedRecord s c).target = s.tables.active.clampCurrent c (s.corner c).target := by
      unfold swappedRecord
      split <;> rfl
    rw [htarget]
    exact hordered.admits_clamp c _

/-- A swap to an ordered bank clamps every target where T4 changes (R127). -/
theorem TargetLaw.performSwap (h : TargetLaw s) (hstaged : s.tables.staged.Ordered) : TargetLaw (performSwap s) where
  drive := h.drive.performSwap
  ordered _ := by simpa [Tables.swapped] using hstaged
  targets := by
    have hactive (u : State) (hu : u.tables = (copyStaged s).tables) : u.tables.active = s.tables.staged := by
      rw [hu]
      rfl
    have hcapture : TargetsIn s.tables.active (swapCapture s.tables (copyStaged s)) := h.targets.of_agree
    have hsilenced (p : PerSource SourceState) :
        TargetsIn s.tables.active ((swapCapture s.tables (copyStaged s)).setSources p) := hcapture.of_agree
    have htiming : TargetsIn s.tables.active (swapTiming s.tables (swapCapture s.tables (copyStaged s))) :=
      (hsilenced _).reselect
    have hpreview : TargetsIn s.tables.active
        (swapPreview s.tables (swapTiming s.tables (swapCapture s.tables (copyStaged s)))) := htiming.of_agree
    have hdrive := hpreview.swapDrive (by rw [hactive _ (by simp)]; exact hstaged)
    rw [hactive _ (by simp)] at hdrive
    have hsupply {u : State} (hu : TargetsIn s.tables.staged u) : TargetsIn s.tables.staged (swapSupply s.tables u) := by
      unfold swapSupply
      split
      · exact hu
      · exact hu.judgeSupply
    have hlast {u : State} (hu : TargetsIn s.tables.staged u) : TargetsIn s.tables.staged (swapMonitor s.tables u) :=
      hu.of_agree
    rw [performSwap_tables]
    exact hlast (hsupply hdrive)

theorem TargetLaw.openGate (h : TargetLaw s) (hordered : s.tables.active.Ordered) : TargetLaw (openGate s) where
  drive := h.drive.openGate
  ordered _ := by simpa using hordered
  targets := fun c hdriven => by
    have hcorner := congrArg Prod.fst (both_openGate s c)
    rw [apply_ite Prod.fst] at hcorner
    have hcorner : (Machine.openGate s).corner c = _ := hcorner
    rw [show (Machine.openGate s).tables = s.tables by simp]
    rw [hcorner] at hdriven ⊢
    split
    · exact hordered (axleOf c)
    · rename_i hnot
      rw [if_neg hnot] at hdriven
      exact h.targets c hdriven

theorem TargetLaw.clearFault (h : TargetLaw s) (c : Corner) : TargetLaw (clearFault c s) where
  drive := h.drive.clearFault c
  ordered := by simpa using h.ordered
  targets := by
    have hcounts : TargetsIn s.tables.active (clearCounts c s) :=
      TargetsIn.setCorner (s := s.setMonitor c _) h.targets.of_agree
    rw [show (Machine.clearFault c s).tables = s.tables by simp, clearFault_eq]
    split
    · split
      · rename_i hopen
        exact hcounts.toHold (h.ordered hopen (axleOf c))
      · exact hcounts.at_corner (fun d => corner_toOff c d _) (by simp [DriveState.isDriven, DriveState.isOff])
    · exact hcounts

theorem TargetLaw.clearNamed (h : TargetLaw s) (w : Word) : TargetLaw (clearNamed w s) :=
  List.foldlRecOn (motive := TargetLaw) (maskCorners w) _ h fun _ h c _ => h.clearFault c

/-- Every event keeps the targets in range: what is delivered is clamped, and a swap clamps what is held. -/
theorem targetLaw_kept : DriveKeeps TablesInv (fun t => t.staged.validated) TargetLaw where
  dequeued _ h := h
  pends h hpending := by
    obtain ⟨-, -, -, hstaged, -⟩ := h
    exact hstaged hpending
  passes h hpasses := by
    obtain ⟨-, hwf, -⟩ := h
    exact validated_of_validate hwf hpasses
  same hsame h := h.same hsame
  closed x h := h.closeGate x
  swapped hstaged h := h.performSwap (ordered_of_validated hstaged)
  updated c i _ _ h := h.updateTarget c i
  delivered b ts _ _ h := h.deliver b ts
  boostExpired := by
    intro s c timeout hboost hA h
    have hcounted : TargetLaw (countTimeout c s) := h.setCorner
    have hflagged : TargetLaw (setFlag .boostTimeout (countTimeout c s)) := hcounted.same { }
    exact {
      drive := driveInv_kept.boostExpired hboost trivial h.drive
      ordered := by simpa using h.ordered
      targets := by simpa using hflagged.targets.endBoost (h.targets c (by rw [hboost]; rfl)) hflagged.drive }
  measured c m _ h := by
    have hmeasured : TargetLaw (keepMeasurement c m (runPeriod c _)) := (h.runPeriod c).setCorner
    exact (hmeasured.actOnMeasurement c m).endPeriod c
  sampled v _ h := h.sampled v
  opened hA hsame hvalid h := by
    obtain ⟨-, -, hactive, -⟩ := hA
    exact h.openGate (hsame.active ▸ ordered_of_validated (hactive (hsame.activeValid ▸ hvalid)))
  cleared w _ _ h := h.clearNamed w
  restarted h := ⟨driveInv_kept.restarted h.drive, by simp [resetControl, Gate.reset],
    targetsIn_of_off fun c => .inl (by cases c <;> rfl)⟩
  reset ts w s := ⟨driveInv_kept.reset ts w s, by simp [resetBlocks, State.reset, Gate.reset],
    targetsIn_of_off fun c => .inl (by cases c <;> rfl)⟩
  started h := h.startPeriods

end

/-- Settles O56: the gate law is kept by O54 and the drive laws by O55; while a corner is driven the gate is OPEN, so
ACTIVE is validated and what reaches a target is clamped into a range that is not empty. -/
theorem stepsKeepTargetsInRange : Obligations.StepsKeepTargetsInRange := by
  rintro s t ⟨⟨hbanks, hgate⟩, hdrive, htargets⟩ hstep
  have hlaw : TargetLaw s := {
    drive := hdrive
    ordered := fun hopen => by
      obtain ⟨hvalid, -⟩ := hgate hopen
      obtain ⟨-, -, hactive, -⟩ := hbanks
      exact ordered_of_validated (hactive hvalid)
    targets := htargets }
  exact ⟨stepsKeepTheGateLaw s t ⟨hbanks, hgate⟩ hstep, stepsKeepTheBoostLaws.1 s t hdrive hstep,
    (targetLaw_kept.events.step hbanks hlaw hstep).targets⟩

end Sys2Proof.Machine

/-! The dispatch, the events that do not occur, and the resets. -/

namespace Sys2Proof.Machine

/-! ### Steps and events that do not occur -/

/-- Settles O1: a step is its own definition, by the queue's two shapes. -/
theorem stepRunsTheFrontCommand : Obligations.StepRunsTheFrontCommand := by
  refine ⟨fun i rest s h => ?_, fun s h => ?_⟩ <;> unfold step <;> rw [h]

/-- What a command that is shut out while a reset is in progress answers. -/
theorem ite_answers {b : Bool} {s t : State} {o : Host.Outcome State Fault Refusal} (h : o = .next t) :
    ∃ u, (if b then .next s else o) = Host.Outcome.next u := by
  cases b
  · exact ⟨t, h⟩
  · exact ⟨s, rfl⟩

theorem execRequest_next (isIt : BitVec 7 → Bool) (act : Request → State → State) (s : State) :
    ∃ t, execRequest isIt act s = .next t := by
  unfold execRequest
  split
  · exact ⟨s, rfl⟩
  · split
    · split <;> exact ⟨_, rfl⟩
    all_goals exact ⟨s, rfl⟩

/-- The test and the action of the request whose execution event a command is (R178); none for the other events. -/
def requestEvent : Instr → Option ((BitVec 7 → Bool) × (Request → State → State))
  | .nop => some ((· == codeNop), doNop)
  | .load => some ((· == codeLoad), doLoad)
  | .readTable => some ((· == codeReadTable), doReadTable)
  | .commit => some ((· == codeCommit), doCommit)
  | .discard => some ((· == codeDiscard), doDiscard)
  | .setProgramme => some ((· == codeSetProgramme), doSetProgramme)
  | .enableDrive => some ((· == codeEnableDrive), doEnableDrive)
  | .disableDrive => some ((· == codeDisableDrive), doDisableDrive)
  | .monitorTest => some ((· == codeMonitorTest), doMonitorTest)
  | .clearFaults => some ((· == codeClearFaults), doClearFaults)
  | .clearFlags => some ((· == codeClearFlags), doClearFlags)
  | .readState => some ((· == codeReadState), doReadState)
  | .resetControl => some ((· == codeResetControl), doResetControl)
  | .unknownCommand => some (unknownCode, invalid)
  | _ => none

theorem exec_of_requestEvent {i : Instr} {x : (BitVec 7 → Bool) × (Request → State → State)}
    (h : requestEvent i = some x) (s : State) : exec i s = execRequest x.1 x.2 s := by
  cases i <;> cases h <;> rfl

/-- Every command but an ill-formed sample answers a next state. -/
theorem exec_next (i : Instr) (s : State) (h : i.wellFormed = true) : ∃ t, exec i s = .next t := by
  cases i with
  | receptionCompletion p ws d w o => exact ite_answers rfl
  | transmitCompletion p =>
    change ∃ t, execTransmitCompletion p s = .next t
    unfold execTransmitCompletion
    split
    · exact ⟨s, rfl⟩
    · split <;> exact ⟨_, rfl⟩
  | silenceTimerExpiry src o =>
    change ∃ t, execSilenceTimerExpiry src o s = .next t
    unfold execSilenceTimerExpiry
    split
    · exact ⟨s, rfl⟩
    · split <;> exact ⟨_, rfl⟩
  | computationCompletion =>
    change ∃ t, execComputationCompletion s = .next t
    unfold execComputationCompletion
    split
    · exact ⟨s, rfl⟩
    · split <;> exact ⟨_, rfl⟩
  | staggeredUpdate c =>
    change ∃ t, execStaggeredUpdate c s = .next t
    unfold execStaggeredUpdate
    split
    · exact ⟨s, rfl⟩
    · split <;> exact ⟨_, rfl⟩
  | boostTimerExpiry c =>
    change ∃ t, execBoostTimerExpiry c s = .next t
    unfold execBoostTimerExpiry
    split
    · exact ⟨s, rfl⟩
    · split <;> exact ⟨_, rfl⟩
  | currentMeasurement c m => exact ite_answers rfl
  | supplyMeasurement v =>
    have hv : ¬ 20000 < v := Nat.not_lt.mpr (of_decide_eq_true h)
    change ∃ t, execSupplyMeasurement v s = .next t
    unfold execSupplyMeasurement
    rw [if_neg hv]
    exact ite_answers rfl
  | powerOnReset => exact ⟨_, rfl⟩
  | resetLineReset => exact ⟨_, rfl⟩
  | resetEnd straps =>
    change ∃ t, execResetEnd straps s = .next t
    unfold execResetEnd
    split <;> exact ⟨_, rfl⟩
  | _ =>
    rw [exec_of_requestEvent rfl]
    exact execRequest_next _ _ s

/-- A command that is not well formed is a supply sample above full scale. -/
theorem exec_illFormed (i : Instr) (s : State) (h : i.wellFormed = false) : exec i s = .fault .illFormed := by
  cases i with
  | supplyMeasurement v =>
    have hv : 20000 < v := Nat.not_le.mp (of_decide_eq_false h)
    change execSupplyMeasurement v s = _
    unfold execSupplyMeasurement
    exact if_pos hv
  | _ => cases h

/-- A reset in progress shuts a request's event out. -/
theorem execRequest_of_reset (isIt : BitVec 7 → Bool) (act : Request → State → State) {s : State}
    (h : s.resetInProgress = true) : execRequest isIt act s = .next s := by
  unfold execRequest
  rw [if_pos h]

/-- While a reset is in progress only a reset or its end acts (log entry 5). -/
theorem exec_of_reset (i : Instr) (s : State) (h : s.resetInProgress = true) (hwf : i.wellFormed = true)
    (hpower : i ≠ .powerOnReset) (hline : i ≠ .resetLineReset) (hend : ∀ straps, i ≠ .resetEnd straps) :
    exec i s = .next s := by
  cases i with
  | receptionCompletion p ws d w o => exact if_pos h
  | transmitCompletion p => exact if_pos h
  | silenceTimerExpiry src o => exact if_pos h
  | computationCompletion => exact if_pos h
  | staggeredUpdate c => exact if_pos h
  | boostTimerExpiry c => exact if_pos h
  | currentMeasurement c m => exact if_pos h
  | supplyMeasurement v =>
    have hv : ¬ 20000 < v := Nat.not_lt.mpr (of_decide_eq_true hwf)
    change execSupplyMeasurement v s = _
    unfold execSupplyMeasurement
    rw [if_neg hv]
    exact if_pos h
  | powerOnReset => exact absurd rfl hpower
  | resetLineReset => exact absurd rfl hline
  | resetEnd straps => exact absurd rfl (hend straps)
  | _ =>
    rw [exec_of_requestEvent rfl]
    exact execRequest_of_reset _ _ h

/-- A request's event finds no request of its own at the head of the queue (R178). -/
theorem execRequest_absent {isIt : BitVec 7 → Bool} {act : Request → State → State} {s : State}
    (h : s.mgmt.executing ≠ none ∨ s.mgmt.queue = [] ∨ ∃ r rest, s.mgmt.queue = r :: rest ∧ isIt r.command = false) :
    execRequest isIt act s = .next s := by
  unfold execRequest
  split
  · rfl
  · split
    · rename_i r rest hidle hqueue
      obtain hbusy | hempty | ⟨r', rest', hqueue', hother⟩ := h
      · exact absurd hidle hbusy
      · rw [hempty] at hqueue
        cases hqueue
      · rw [hqueue'] at hqueue
        cases hqueue
        rw [hother]
        rfl
    all_goals rfl

/-- Settles O2: each kind of event by its own test. -/
theorem eventsThatDoNotOccurChangeNothing : Obligations.EventsThatDoNotOccurChangeNothing := by
  refine ⟨fun i s => ⟨exec_next i s, exec_illFormed i s⟩, exec_of_reset, fun i code s hmem habsent => ?_,
    fun s habsent => execRequest_absent ?_⟩
  · have hevent : ∃ act, requestEvent i = some ((· == code), act) := by
      simp only [List.mem_cons, Prod.mk.injEq, List.not_mem_nil, or_false] at hmem
      rcases hmem with ⟨rfl, rfl⟩ | ⟨rfl, rfl⟩ | ⟨rfl, rfl⟩ | ⟨rfl, rfl⟩ | ⟨rfl, rfl⟩ | ⟨rfl, rfl⟩ | ⟨rfl, rfl⟩ |
        ⟨rfl, rfl⟩ | ⟨rfl, rfl⟩ | ⟨rfl, rfl⟩ | ⟨rfl, rfl⟩ | ⟨rfl, rfl⟩ | ⟨rfl, rfl⟩ <;> exact ⟨_, rfl⟩
    obtain ⟨act, hact⟩ := hevent
    rw [exec_of_requestEvent hact]
    exact execRequest_absent (by simpa only [beq_eq_false_iff_ne] using habsent)
  · simpa only [unknownCode, decide_eq_false_iff_not, Nat.not_lt] using habsent

/-- Settles O37: the request's event runs its action on the state it has left the queue of. -/
theorem nopEchoesAndUnknownCommandsAreInvalid : Obligations.NopEchoesAndUnknownCommandsAreInvalid := by
  refine ⟨fun s r rest h => execRequest_atExecution doNop h, fun s r rest hreset hidle hqueue hcode => ?_⟩
  exact execRequest_runs invalid hreset hidle hqueue (by simpa [unknownCode] using hcode)

/-! ### Resets -/

/-- What both resets make of every block but the banks and the flags (R175). -/
theorem blocksAreReset (ts : Tables) (w : Word) (s : State) :
    (∀ p, PortIsReset ((resetBlocks ts w s).port p)) ∧ CaptureIsReset (resetBlocks ts w s) ∧
      TimingIsReset (resetBlocks ts w s) ∧ EngineIsReset (resetBlocks ts w s) ∧
      DriveIsReset (resetBlocks ts w s) (fun _ => 1000) (fun _ => false) ∧ MonitorAndGateAreReset (resetBlocks ts w s) ∧
      MgmtIsReset (resetBlocks ts w s) := by
  refine ⟨fun p => ?_, ⟨rfl, fun g => ?_⟩, ⟨rfl, rfl, rfl, rfl, rfl, rfl, rfl, rfl, rfl⟩, engineIsReset_of rfl,
    ⟨rfl, rfl, fun c => ?_, fun c => ?_⟩, monitorAndGateAreReset_of rfl rfl, rfl, rfl, fun p => ?_⟩
  · cases p <;> exact ⟨rfl, rfl, rfl, rfl, rfl⟩
  · cases g <;> rfl
  · cases c <;> rfl
  · cases c <;> rfl
  · cases p <;> rfl

/-- Settles O3: both resets are one reset of the blocks, with their own banks and flags. -/
theorem resetsSetEveryBlock : Obligations.ResetsSetEveryBlock := by
  refine ⟨fun s => ⟨_, rfl, ?_⟩, fun s => ⟨_, rfl, ?_⟩⟩
  · obtain ⟨hports, hcapture, htiming, hengine, hdrive, hmonitor, hmgmt⟩ :=
      blocksAreReset Tables.powerOn Flag.powerOn.mask s
    exact ⟨rfl, rfl, hports, rfl, hcapture, htiming, hengine, rfl, rfl, hdrive, hmonitor, rfl, hmgmt, rfl⟩
  · obtain ⟨hports, hcapture, htiming, hengine, hdrive, hmonitor, hmgmt⟩ :=
      blocksAreReset { s.tables with commitPending := false } (s.mgmt.flags &&& Flag.powerOn.mask) s
    refine ⟨rfl, rfl, hports, rfl, hcapture, htiming, hengine, rfl, rfl, hdrive, hmonitor, rfl, hmgmt, fun f => ?_⟩
    change f.isSet (s.mgmt.flags &&& Flag.powerOn.mask) = _
    rw [← flag_mask_isSet]
    exact BitVec.getLsbD_and

/-- Settles O4: the end of a reset starts the periods; the reset state is the blocks' reset with the banks cleared. -/
theorem resetEndAndResetState : Obligations.ResetEndAndResetState := by
  refine ⟨fun straps s => ⟨fun hreset => ?_, fun hrun => ?_⟩, ?_⟩
  · refine ⟨_, if_pos hreset, rfl, rfl, fun c => startPeriods_corner s c, ?_, rfl, rfl⟩
    cases s
    cases hreset
    rfl
  · exact if_neg (by simp [hrun])
  · obtain ⟨hports, hcapture, htiming, hengine, hdrive, hmonitor, hmgmt⟩ :=
      blocksAreReset Tables.powerOn Flag.powerOn.mask State.reset
    exact ⟨rfl, rfl, hports, rfl, hcapture, htiming, hengine, rfl, rfl, hdrive, hmonitor, rfl, hmgmt, rfl⟩

/-! ### The invariants at the reset state -/

theorem tablesInv_reset : TablesInv State.reset :=
  ⟨wf_zero, wf_zero, fun h => (by cases h), fun h => (by cases h), fun y h => (by cases h)⟩

theorem gateInv_reset : GateInv State.reset := ⟨tablesInv_reset, fun h => by cases h⟩

theorem driveInv_reset : DriveInv State.reset :=
  driveInv_of_off rfl rfl fun c => by cases c <;> exact ⟨rfl, rfl, rfl⟩

theorem counters_zero_addUp : Counters.zero.addUp := rfl

theorem requestInv_reset : RequestInv State.reset := by
  refine ⟨fun c h => ?_, rfl, rfl, fun c => ?_⟩ <;> cases c
  all_goals first | rfl | cases h

/-- Settles O52: the reset tables satisfy each invariant. -/
theorem invariantsHoldAtReset : Obligations.InvariantsHoldAtReset := by
  have htargets (c : Corner) : (State.reset.corner c).state = .off := by cases c <;> rfl
  refine ⟨tablesInv_reset, gateInv_reset, driveInv_reset, ?_, ?_, ?_, ?_, rfl, ⟨fun _ => rfl, fun _ => rfl⟩,
    requestInv_reset, (engineInv_iff _).mpr ⟨tablesInv_reset, liveInRange_reset, engineInRange_reset _⟩⟩
  · exact ⟨fun c d => by cases c <;> cases d <;> rfl, .fl, rfl⟩
  · exact ⟨gateInv_reset, driveInv_reset, fun c hdriven => by rw [htargets] at hdriven; cases hdriven⟩
  · refine ⟨fun p => ?_, Nat.zero_le 4⟩
    cases p <;> exact ⟨Nat.zero_le 8, Nat.zero_le 4, Nat.zero_le 3, fun _ => rfl, fun _ => ⟨rfl, rfl⟩⟩
  · intro p
    cases p <;> exact ⟨counters_zero_addUp, counters_zero_addUp⟩

end Sys2Proof.Machine

/-! Receptions, transmissions and offers (chapter 10), and the flags that each operation behind a received frame may set. -/

namespace Sys2Proof.Machine

/-! ### Flags (R186) -/

/-- Between two states no flag has changed but those listed. -/
def FlagsKept (fs : List Flag) (s t : State) : Prop := OtherFlagsKept s.mgmt.flags t.mgmt.flags fs

section
variable {fs gs : List Flag} {s t u : State}

theorem FlagsKept.of_agree (h : t.mgmt.flags = s.mgmt.flags := by simp) : FlagsKept fs s t := fun f _ => by rw [h]

theorem FlagsKept.trans (h : FlagsKept fs s t) (g : FlagsKept fs t u) : FlagsKept fs s u := fun f hf =>
  (g f hf).trans (h f hf)

theorem FlagsKept.mono (h : FlagsKept gs s t) (hsub : gs ⊆ fs := by decide) : FlagsKept fs s t := fun f hf =>
  h f fun hmem => hf (hsub hmem)

theorem flagsKept_setFlag (f : Flag) (s : State) : FlagsKept [f] s (setFlag f s) := fun g hg => by
  have hne : g ≠ f := by simpa using hg
  rw [setFlag_isSet, decide_eq_false hne, Bool.or_false]

theorem flagsKept_setFlagIf (b : Bool) (f : Flag) (s : State) : FlagsKept [f] s (setFlagIf b f s) := by
  cases b with
  | true => exact flagsKept_setFlag f s
  | false => exact .of_agree rfl

theorem setFlagIf_isSet (b : Bool) (f : Flag) (s : State) : f.isSet (setFlagIf b f s).mgmt.flags = (f.isSet s.mgmt.flags || b) := by
  cases b with
  | true => simp [setFlag_isSet, -setFlag_mgmt]
  | false => simp

/-- An operation that sets none but INSERT_LOST, as its lemma says of every other flag. -/
theorem FlagsKept.of_isSet (h : ∀ g : Flag, g ≠ .insertLost → g.isSet t.mgmt.flags = g.isSet s.mgmt.flags) :
    FlagsKept [.insertLost] s t := fun g hg => h g (by simpa using hg)

theorem FlagsKept.foldl {α : Type} {f : State → α → State} (h : ∀ s a, FlagsKept fs s (f s a)) (l : List α) (s : State) :
    FlagsKept fs s (l.foldl f s) := by
  induction l generalizing s with
  | nil => exact .of_agree rfl
  | cons a l ih => exact (h s a).trans (ih _)

end

theorem flagsKept_closeGate (x : CloseCause) (s : State) : FlagsKept [.insertLost] s (closeGate x s) :=
  .of_isSet fun _ hg => closeGate_isSet x s hg

theorem flagsKept_endExecuting (x : Result) (ws : List Word) (s : State) : FlagsKept [.insertLost] s (endExecuting x ws s) :=
  .of_isSet fun _ hg => endExecuting_isSet x ws s hg

theorem flagsKept_answer (r : Request) (x : Result) (ws : List Word) (s : State) :
    FlagsKept [.insertLost] s (answer r x ws s) :=
  .of_isSet fun _ hg => answer_isSet r x ws s hg

theorem flagsKept_applyProgramme (s : State) : FlagsKept [.insertLost] s (applyProgramme s) := by
  unfold applyProgramme
  split
  · exact .of_agree rfl
  · rename_i p _
    exact FlagsKept.trans (t := { s with engine := { s.engine with programme := p, pendingProgramme := none } })
      (.of_agree rfl) (flagsKept_endExecuting _ _ _)

theorem flagsKept_closeForSilence (s : State) : FlagsKept [.marksSilent, .insertLost] s (closeForSilence s) :=
  (flagsKept_closeGate .marksSilent s).mono.trans (flagsKept_setFlag _ _).mono

theorem flagsKept_reselect (s : State) : FlagsKept [.sourceSwitch, .marksSilent, .insertLost] s (reselect s) := by
  unfold reselect
  split
  · exact .of_agree rfl
  · split
    · rename_i src _
      exact FlagsKept.mono (gs := [.sourceSwitch]) (FlagsKept.trans
        (t := { s with timing := { s.timing with selected := some src, baseline := none, holdRequest := true } })
        (.of_agree rfl) (flagsKept_setFlag _ _))
    · have hunselected : FlagsKept [.sourceSwitch, .marksSilent, .insertLost] s
          { s with timing := { s.timing with selected := none } } := .of_agree rfl
      exact hunselected.trans ((flagsKept_closeForSilence _).mono.trans (flagsKept_applyProgramme _).mono)

theorem flagsKept_judgeSupply (s : State) : FlagsKept [.supplyLow, .supplyCut, .insertLost] s (judgeSupply s) := by
  have hlow : FlagsKept [.supplyLow, .supplyCut, .insertLost] s (judgeLow s) := fun g hg => by
    have hne : g ≠ .supplyLow := fun heq => hg (by simp [heq])
    simp [judgeLow_isSet, hne]
  unfold judgeSupply judgeCut
  split
  · exact hlow.trans ((flagsKept_setFlag .supplyCut _).mono.trans (flagsKept_closeGate _ _).mono)
  · exact hlow

/-- The flags that a swap may set. -/
def swapFlags : List Flag := [.sourceSwitch, .marksSilent, .supplyLow, .supplyCut, .insertLost]

theorem flagsKept_performSwap (s : State) : FlagsKept swapFlags s (performSwap s) := by
  have hcapture : FlagsKept swapFlags s (swapCapture s.tables (copyStaged s)) := .of_agree
  have hsilenced (p : PerSource SourceState) :
      FlagsKept swapFlags s ((swapCapture s.tables (copyStaged s)).setSources p) := hcapture.trans .of_agree
  have htiming : FlagsKept swapFlags s (swapTiming s.tables (swapCapture s.tables (copyStaged s))) :=
    (hsilenced _).trans (flagsKept_reselect _).mono
  have hdrive : FlagsKept swapFlags s (swapDrive s.tables
      (swapPreview s.tables (swapTiming s.tables (swapCapture s.tables (copyStaged s))))) := htiming.trans .of_agree
  have hsupply (u : State) : FlagsKept swapFlags u (swapSupply s.tables u) := by
    unfold swapSupply
    split
    · exact .of_agree rfl
    · exact (flagsKept_judgeSupply u).mono
  have hmonitor (u : State) : FlagsKept swapFlags u (swapMonitor s.tables u) := .of_agree
  exact hdrive.trans ((hsupply _).trans (hmonitor _))

theorem flagsKept_completeCommit (s : State) : FlagsKept swapFlags s (completeCommit s) := by
  unfold completeCommit
  split
  · exact (flagsKept_performSwap s).trans (flagsKept_endExecuting _ _ _).mono
  · exact .of_agree rfl

theorem flagsKept_reevaluate (o : Bool) (s : State) : FlagsKept swapFlags s (reevaluate o s) := by
  have hunselected : FlagsKept swapFlags s { s with timing := { s.timing with selected := none } } := .of_agree rfl
  unfold reevaluate
  split
  · exact .of_agree rfl
  · split
    · rename_i src _
      exact FlagsKept.mono (gs := [.sourceSwitch]) (FlagsKept.trans
        (t := { s with timing := { s.timing with selected := some src, baseline := none, holdRequest := true } })
        (.of_agree rfl) (flagsKept_setFlag _ _))
    · refine FlagsKept.trans ?_ (flagsKept_applyProgramme _).mono
      cases o with
      | true => exact hunselected.trans ((flagsKept_completeCommit _).trans (flagsKept_closeForSilence _).mono)
      | false => exact hunselected.trans ((flagsKept_closeForSilence _).mono.trans (flagsKept_completeCommit _))

/-- The flags that a frame handed to its block may set. -/
def handOverFlags : List Flag := [.signalClamped, .signalStale, .markGap, .markSkipped] ++ swapFlags

theorem flagsKept_startCycle (k : Nat) (seq : Word) (n : Count) (s : State) :
    FlagsKept (.signalStale :: swapFlags) s (startCycle k seq n s) := by
  have happlied : FlagsKept (.signalStale :: swapFlags) s (applyProgramme (completeCommit s)) :=
    (flagsKept_completeCommit s).mono.trans (flagsKept_applyProgramme _).mono
  have hstale (b : Bool) (u : State) : FlagsKept (.signalStale :: swapFlags) u (setFlagIf b .signalStale u) :=
    (flagsKept_setFlagIf b _ u).mono
  unfold startCycle
  dsimp only
  exact happlied.trans (FlagsKept.trans (FlagsKept.of_agree (by simp)) (hstale _ _))

theorem flagsKept_markArrives (src : Source) (s : State) : FlagsKept swapFlags s (markArrives src s) := by
  have hrestarted : FlagsKept swapFlags s (restartTimer src s) := .of_agree rfl
  unfold markArrives
  split
  · exact hrestarted.trans (flagsKept_reevaluate _ _)
  · exact hrestarted

theorem flagsKept_examineMark (p : Port) (seq : Word) (s : State) : FlagsKept handOverFlags s (examineMark p seq s) := by
  unfold examineMark
  split
  · have hcounted : FlagsKept handOverFlags s { s with timing := { s.timing with skipped := s.timing.skipped + 1 } } :=
      .of_agree rfl
    exact hcounted.trans (flagsKept_setFlag .markSkipped _).mono
  · split
    · exact .of_agree rfl
    · rename_i k gap _
      have hgap : FlagsKept handOverFlags s (setFlagIf gap .markGap s) := (flagsKept_setFlagIf _ _ _).mono
      refine hgap.trans (FlagsKept.trans ?_ (flagsKept_startCycle _ _ _ _).mono)
      exact .of_agree rfl

theorem flagsKept_readMark (p : Port) (ident : Nat) (ws : List Word) (s : State) :
    FlagsKept handOverFlags s (readMark p ident ws s) := by
  unfold readMark
  split
  · exact .of_agree rfl
  · split
    · exact (flagsKept_markArrives _ s).mono
    · split
      · exact (flagsKept_markArrives _ s).mono.trans (flagsKept_examineMark _ _ _)
      · exact (flagsKept_markArrives _ s).mono

theorem flagsKept_readSample (ident : Nat) (ws : List Word) (s : State) :
    FlagsKept [.signalClamped] s (readSample ident ws s) := by
  refine FlagsKept.foldl (fun s g => ?_) _ _
  unfold serveRow
  split
  · exact .of_agree rfl
  · split
    · split
      · exact .of_agree rfl
      · unfold writeSignal
        exact FlagsKept.trans (.of_agree (by simp)) (flagsKept_setFlagIf _ _ _)
    · exact .of_agree rfl

theorem flagsKept_handOver (p : Port) (ws : List Word) (s : State) : FlagsKept handOverFlags s (handOver p ws s) := by
  unfold handOver
  dsimp only
  split_ifs
  · exact (flagsKept_readSample _ _ s).mono
  · exact flagsKept_readMark _ _ _ s
  · exact .of_agree rfl

/-! ### Receptions (R167, R168) -/

theorem exec_receptionCompletion {s : State} (p : Port) (ws : List Word) (d w o : Bool) (hrun : s.resetInProgress = false) :
    exec (.receptionCompletion p ws d w o) s =
      .next (receive p ws o (countAt p (judgeReception s p ws d w) s) (judgeReception s p ws d w)) := by
  simp only [exec, execReceptionCompletion, State.portsCutOff, hrun]
  rfl

/-- Two ports have the same reception counters. -/
def SameReceptions (k n : Counters) : Prop :=
  n.received = k.received ∧ n.check = k.check ∧ n.format = k.format ∧ n.consumed = k.consumed ∧ n.full = k.full ∧
    n.accepted = k.accepted

theorem SameReceptions.refl (k : Counters) : SameReceptions k k := ⟨rfl, rfl, rfl, rfl, rfl, rfl⟩

theorem offers_sameReceptions {u v : PortUnit} {k : Counters} (h : Offers u v) (hu : SameReceptions k u.counters) :
    SameReceptions k v.counters := by
  refine h.keeps (P := fun u => SameReceptions k u.counters) (fun u v hone hu => ?_) hu
  cases hone with
  | joins f _ => simpa [PortUnit.pushInsert] using hu
  | lost => exact hu

theorem Answers.sameReceptions {s t : State} {k : Counters} {q : Port} (h : Answers s t)
    (hs : SameReceptions k (s.port q).counters) : SameReceptions k (t.port q).counters :=
  offers_sameReceptions (h.ports q) hs

theorem takeRequestFrame_offers (p q : Port) (ws : List Word) (s : State) :
    Offers (s.port q) ((takeRequestFrame p ws s).port q) := by
  unfold takeRequestFrame
  split
  · exact .refl
  · dsimp only
    split_ifs
    · unfold abortRequests
      refine Eq.subst (motive := fun u => Offers u _) (port_of_link ?_ q) ((answers_answer _ _ _ _).ports q)
      cases s.mgmt.executing <;> simp
    · exact .refl
    · exact (answers_offerFrame (Nat.le_refl 4) _ _ _).ports q

theorem forward_port (p q : Port) (ws : List Word) (s : State) :
    (forward p ws s).port q = if q = opposite p then (s.port (opposite p)).pushForward ws else s.port q :=
  port_setPort _ _ _ _

theorem forward_sameReceptions {p q : Port} {ws : List Word} {s : State} {k : Counters}
    (h : SameReceptions k (s.port q).counters) : SameReceptions k ((forward p ws s).port q).counters := by
  rw [forward_port]
  split
  · rename_i hq
    rw [← hq]
    simpa [PortUnit.pushForward] using h
  · exact h

/-- Once counted, a reception moves no reception counter. -/
theorem receive_sameReceptions {k : Counters} {s : State} (p q : Port) (ws : List Word) (o : Bool) (x : Reception)
    (h : SameReceptions k (s.port q).counters) : SameReceptions k ((receive p ws o s x).port q).counters := by
  cases x with
  | check => exact h
  | format => exact h
  | consumed => exact offers_sameReceptions (takeRequestFrame_offers p q _ s) h
  | full => exact (answers_handOver p ws (setFlag .fullDrops s)).sameReceptions h
  | accepted =>
    cases o with
    | true => exact forward_sameReceptions ((answers_handOver p ws s).sameReceptions h)
    | false => exact (answers_handOver p ws _).sameReceptions (forward_sameReceptions h)

/-- Settles O6: the outcome is counted by its own test, and the rest of the reception moves no reception counter. -/
theorem receptionCountsOneOutcome : Obligations.ReceptionCountsOneOutcome := by
  intro p ws d w o s hrun
  refine ⟨_, exec_receptionCompletion p ws d w o hrun, ?_, ?_⟩
  · have hcounted : SameReceptions (countReception (s.port p).counters (judgeReception s p ws d w))
        ((countAt p (judgeReception s p ws d w) s).port p).counters := by
      rw [countAt_port, if_pos rfl]
      exact .refl _
    obtain ⟨h1, h2, h3, h4, h5, h6⟩ := receive_sameReceptions p p ws o (judgeReception s p ws d w) hcounted
    dsimp only
    rw [h1, h2, h3, h4, h5, h6]
    unfold judgeReception
    cases hgood : passesCheck ws d w with
    | false => simp [countReception]
    | true =>
      cases hformed : wellFormatted ws with
      | false => simp [countReception]
      | true =>
        by_cases hmine : headerKind (frameHeader ws) = kindRequest ∧ headerIdent (frameHeader ws) = s.link.nodeAddress.toNat
        · simp [countReception, hmine, kindRequest]
        · have hother : (decide (headerKind (frameHeader ws) = 2#3) &&
              decide (headerIdent (frameHeader ws) = s.link.nodeAddress.toNat)) = false := by
            simpa [kindRequest] using hmine
          rcases Nat.lt_or_ge (s.port (opposite p)).fifo.length 8 with hroom | hfull
          · simp [countReception, hmine, hother, hroom, Nat.not_le.mpr hroom, Config.fifoPlaces]
          · simp [countReception, hmine, hother, hfull, Nat.not_lt.mpr hfull, Config.fifoPlaces]
  · have hcounted : SameReceptions (s.port (opposite p)).counters
        ((countAt p (judgeReception s p ws d w) s).port (opposite p)).counters := by
      rw [countAt_port, if_neg (opposite_ne p)]
      exact .refl _
    exact receive_sameReceptions p _ ws o _ hcounted

/-! ### Dropped and forwarded frames -/

section
variable {s : State} {p : Port} {ws : List Word} {d w : Bool}

theorem judgeReception_check (h : passesCheck ws d w = false) : judgeReception s p ws d w = .check := by
  simp [judgeReception, h]

theorem judgeReception_format (hcheck : passesCheck ws d w = true) (hformat : wellFormatted ws = false) :
    judgeReception s p ws d w = .format := by
  simp [judgeReception, hcheck, hformat]

/-- A good frame that is no REQUEST of this node is accepted with room for it, and full without (R167). -/
theorem judgeReception_passed (hcheck : passesCheck ws d w = true) (hformat : wellFormatted ws = true)
    (hother : headerKind (frameHeader ws) = 2#3 → headerIdent (frameHeader ws) ≠ s.link.nodeAddress.toNat) :
    judgeReception s p ws d w = if (s.port (opposite p)).fifo.length < 8 then .accepted else .full := by
  have hnot : ¬ (headerKind (frameHeader ws) = kindRequest ∧ headerIdent (frameHeader ws) = s.link.nodeAddress.toNat) :=
    fun ⟨hkind, hident⟩ => hother hkind hident
  unfold judgeReception Config.fifoPlaces
  rw [hcheck, hformat, if_neg (by simp), if_neg (by simp), if_neg hnot]
  by_cases hroom : (s.port (opposite p)).fifo.length < 8
  · rw [if_neg (by omega), if_pos hroom]
  · rw [if_pos (by omega), if_neg hroom]

/-- A frame of no block's kind is only forwarded. -/
theorem handOver_other (hsample : headerKind (frameHeader ws) ≠ 0#3) (hmark : headerKind (frameHeader ws) ≠ 1#3)
    (s : State) : handOver p ws s = s := by
  unfold handOver
  dsimp only
  rw [kindSample, kindMark, if_neg hsample, if_neg hmark]

end

/-- A transmitter that is sending is not disturbed by offers: its line and its forward FIFO stay. -/
theorem offers_busy {u v : PortUnit} {x : Transmission} {q : List Frame} (h : Offers u v) (hline : u.line = some x)
    (hfifo : u.fifo = q) : v.line = some x ∧ v.fifo = q := by
  refine h.keeps (P := fun u => u.line = some x ∧ u.fifo = q) (fun u v hone ⟨hline, hfifo⟩ => ?_) ⟨hline, hfifo⟩
  cases hone with
  | joins f _ =>
    rw [PortUnit.pushInsert, start_of_busy (x := x) (by exact hline)]
    exact ⟨hline, hfifo⟩
  | lost => exact ⟨hline, hfifo⟩

theorem pushForward_busy {u : PortUnit} {x : Transmission} (f : Frame) (hline : u.line = some x) :
    (u.pushForward f).line = some x ∧ (u.pushForward f).fifo = u.fifo ++ [f] := by
  rw [PortUnit.pushForward, start_of_busy (x := x) (by exact hline)]
  exact ⟨hline, rfl⟩

theorem receive_accepted_busy {s : State} {p : Port} {x : Transmission} (ws : List Word) (o : Bool)
    (hline : (s.port (opposite p)).line = some x) :
    ((receive p ws o s .accepted).port (opposite p)).line = some x ∧
      ((receive p ws o s .accepted).port (opposite p)).fifo = (s.port (opposite p)).fifo ++ [ws] := by
  have hforward (u : State) : (forward p ws u).port (opposite p) = (u.port (opposite p)).pushForward ws := by
    rw [forward_port, if_pos rfl]
  cases o with
  | true =>
    obtain ⟨hline', hfifo'⟩ := offers_busy ((answers_handOver p ws s).ports (opposite p)) hline rfl
    change ((forward p ws (handOver p ws s)).port _).line = _ ∧ ((forward p ws (handOver p ws s)).port _).fifo = _
    rw [hforward, ← hfifo']
    exact pushForward_busy ws hline'
  | false =>
    obtain ⟨hline', hfifo'⟩ := pushForward_busy ws hline
    rw [← hforward] at hline' hfifo'
    exact offers_busy ((answers_handOver p ws (forward p ws s)).ports (opposite p)) hline' hfifo'

/-- Settles O7: the outcome decides, and what the blocks make of the frame disturbs no busy transmitter. -/
theorem framesAreDroppedOrForwarded : Obligations.FramesAreDroppedOrForwarded := by
  refine ⟨fun p ws d w o s hrun => ⟨fun hbad => ?_, fun hgood hformat => ?_⟩,
    fun p ws d w o s hrun hgood hformat hsample hmark hother => ⟨fun hfull => ?_, fun hroom => ?_⟩,
    fun p ws d w o s hrun hgood hformat hother hbusy => ?_⟩
  · rw [exec_receptionCompletion p ws d w o hrun, judgeReception_check hbad]
    rfl
  · rw [exec_receptionCompletion p ws d w o hrun, judgeReception_format hgood hformat]
    rfl
  · rw [exec_receptionCompletion p ws d w o hrun, judgeReception_passed hgood hformat hother,
      if_neg (Nat.not_lt.mpr hfull)]
    exact congrArg _ (handOver_other hsample hmark _)
  · rw [exec_receptionCompletion p ws d w o hrun, judgeReception_passed hgood hformat hother, if_pos hroom]
    have hforward : receive p ws o (countAt p .accepted s) .accepted = forward p ws (countAt p .accepted s) := by
      cases o with
      | true => exact congrArg (forward p ws) (handOver_other hsample hmark (countAt p .accepted s))
      | false => exact handOver_other hsample hmark (forward p ws (countAt p .accepted s))
    rw [hforward, forward, countAt_port, if_neg (opposite_ne p)]
    rfl
  · obtain ⟨x, hline⟩ := Option.ne_none_iff_exists'.mp hbusy
    have hcounted (y : Reception) : (countAt p y s).port (opposite p) = s.port (opposite p) := by
      rw [countAt_port, if_neg (opposite_ne p)]
    refine ⟨_, exec_receptionCompletion p ws d w o hrun, ?_⟩
    rw [judgeReception_passed hgood hformat hother]
    split
    · rename_i hroom
      obtain ⟨hline', hfifo'⟩ := receive_accepted_busy (s := countAt p .accepted s) ws o (by rw [hcounted, hline])
      rw [hcounted] at hfifo'
      exact ⟨hline'.trans hline.symm, fun _ => hfifo', fun hfull => absurd hroom (Nat.not_lt.mpr hfull)⟩
    · rename_i hfull
      have hoffers := (answers_handOver p ws (setFlag .fullDrops (countAt p .full s))).ports (opposite p)
      obtain ⟨hline', hfifo'⟩ := offers_busy (x := x) (q := (s.port (opposite p)).fifo) hoffers
        (by rw [port_setFlag, hcounted, hline]) (by rw [port_setFlag, hcounted])
      refine ⟨hline'.trans hline.symm, fun hroom => absurd hroom hfull, fun _ => ⟨hfifo', ?_⟩⟩
      refine (flagsKept_handOver p ws (setFlag .fullDrops (countAt p .full s)) .fullDrops (by decide)).trans ?_
      simp [setFlag_isSet, -setFlag_mgmt]

/-! ### Transmissions and offers (R170 to R173, R180) -/

/-- Settles O8: the completion is its definition, and a free transmitter's choice is read from its two sources. -/
theorem transmittersCompleteAndStartByTheWaitCount : Obligations.TransmittersCompleteAndStartByTheWaitCount := by
  have hexec (p : Port) (s : State) (hrun : s.resetInProgress = false) : exec (.transmitCompletion p) s =
      match (s.port p).line with
      | none => .next s
      | some x => .next (s.setPort p ((s.port p).complete x).start) := by
    change execTransmitCompletion p s = _
    unfold execTransmitCompletion
    rw [hrun]
    rfl
  refine ⟨fun p s hrun => ⟨fun hline => ?_, fun x hline hforwarded => ?_, fun x hline hinserted => ?_⟩,
    fun u => ⟨fun hbusy => ?_, fun hfree => ⟨fun hf hi => ?_, fun f fs hf hi => ?_, fun g gs hf hi => ?_,
      fun f fs g gs hf hi => ⟨fun hwait => ?_, fun hwait => ?_⟩⟩⟩⟩
  · rw [hexec p s hrun, hline]
  · rw [hexec p s hrun, hline]
    simp [PortUnit.complete, hforwarded]
  · rw [hexec p s hrun, hline]
    simp [PortUnit.complete, hinserted]
  · obtain ⟨x, hline⟩ := Option.ne_none_iff_exists'.mp hbusy
    exact start_of_busy hline
  all_goals
    unfold PortUnit.start
    simp only [hfree, hf, hi]
  · exact if_pos hwait
  · exact if_neg (Nat.not_le.mpr hwait)

/-- Settles O9: by the room in the queue, and by whether the request wants no reply. -/
theorem repliesAndReportsAreAdmittedByKind : Obligations.RepliesAndReportsAreAdmittedByKind := by
  refine ⟨fun p f s limit _ => ⟨offerFrame_of_room f, offerFrame_of_full f⟩,
    fun r x data s => ⟨fun hquiet hok => ?_, answer_offers data s⟩⟩
  subst hok
  exact answer_quiet data s hquiet

end Sys2Proof.Machine

/-! Frames and their check word (chapter 10), and the rounding terms and the interpolation step. -/

namespace Sys2Proof.Machine

/-! ### Fields of a word (R192) -/

theorem toNat_append_eq {n m : Nat} (x : BitVec n) (y : BitVec m) : (x ++ y).toNat = x.toNat * 2 ^ m + y.toNat := by
  rw [BitVec.toNat_append, Nat.shiftLeft_eq, Nat.mul_comm, Nat.two_pow_add_eq_or_of_lt y.isLt]

theorem toNat_extract {n : Nat} (w : BitVec n) (start len : Nat) :
    (w.extractLsb' start len).toNat = w.toNat / 2 ^ start % 2 ^ len := by
  rw [BitVec.extractLsb'_toNat, Nat.shiftRight_eq_div_pow]

/-- Bit `i` of a word, as a number. -/
theorem getLsbD_eq_decide {n : Nat} (w : BitVec n) (i : Nat) : w.getLsbD i = decide (w.toNat / 2 ^ i % 2 = 1) := by
  rw [BitVec.getLsbD, Nat.testBit_eq_decide_div_mod_eq]

theorem headerWord_toNat (k : BitVec 3) (n : BitVec 4) (i : BitVec 9) :
    (headerWord k n i).toNat = k.toNat * 8192 + n.toNat * 512 + i.toNat := by
  rw [headerWord, toNat_append_eq, toNat_append_eq]
  ring

theorem requestWord_toNat (t : BitVec 8) (q : Bool) (c : BitVec 7) :
    (requestWord t q c).toNat = t.toNat * 256 + q.toNat * 128 + c.toNat := by
  rw [requestWord, toNat_append_eq, toNat_append_eq, BitVec.toNat_ofBool]
  ring

theorem headerWord_fields (k : BitVec 3) (n : BitVec 4) (i : BitVec 9) :
    headerKind (headerWord k n i) = k ∧ headerLength (headerWord k n i) = n.toNat ∧
      headerIdent (headerWord k n i) = i.toNat := by
  have hword := headerWord_toNat k n i
  have hk := k.isLt
  have hn := n.isLt
  have hi := i.isLt
  refine ⟨BitVec.eq_of_toNat_eq ?_, ?_, ?_⟩
  · rw [headerKind, toNat_extract, hword]
    omega
  · rw [headerLength, toNat_extract, hword]
    omega
  · rw [headerIdent, toNat_extract, hword]
    omega

theorem headerWord_of_fields (w : Word) :
    headerWord (headerKind w) (BitVec.ofNat 4 (headerLength w)) (BitVec.ofNat 9 (headerIdent w)) = w := by
  have hw := w.isLt
  refine BitVec.eq_of_toNat_eq ?_
  rw [headerWord_toNat, headerKind, headerLength, headerIdent, BitVec.toNat_ofNat, BitVec.toNat_ofNat, toNat_extract,
    toNat_extract, toNat_extract]
  omega

theorem requestWord_fields (t : BitVec 8) (q : Bool) (c : BitVec 7) :
    requestTag (requestWord t q c) = t ∧ requestQuiet (requestWord t q c) = q ∧
      requestCommand (requestWord t q c) = c := by
  have hword := requestWord_toNat t q c
  have ht := t.isLt
  have hc := c.isLt
  refine ⟨BitVec.eq_of_toNat_eq ?_, ?_, BitVec.eq_of_toNat_eq ?_⟩
  · rw [requestTag, toNat_extract, hword]
    cases q <;> simp only [Bool.toNat_false, Bool.toNat_true] <;> omega
  · rw [requestQuiet, getLsbD_eq_decide, hword]
    cases q <;> simp only [Bool.toNat_false, Bool.toNat_true, decide_eq_true_eq, decide_eq_false_iff_not] <;> omega
  · rw [requestCommand, toNat_extract, hword]
    cases q <;> simp only [Bool.toNat_false, Bool.toNat_true] <;> omega

theorem replyWord_fields (tag : BitVec 8) (x : Result) :
    (replyWord tag x).extractLsb' 8 8 = tag ∧ (replyWord tag x).extractLsb' 0 4 = 0#4 ∧
      (replyWord tag x).extractLsb' 4 4 = x.code := by
  have hword : (replyWord tag x).toNat = tag.toNat * 256 + x.code.toNat * 16 := by
    rw [replyWord, toNat_append_eq, toNat_append_eq]
    simp only [BitVec.toNat_ofNat]
    ring
  have htag := tag.isLt
  have hcode := x.code.isLt
  refine ⟨BitVec.eq_of_toNat_eq ?_, BitVec.eq_of_toNat_eq ?_, BitVec.eq_of_toNat_eq ?_⟩
  · rw [toNat_extract, hword]
    omega
  · rw [toNat_extract, hword, BitVec.toNat_ofNat]
    omega
  · rw [toNat_extract, hword]
    omega

/-! ### The check register (R164, R165) -/

theorem crcBit_eq (reg : Word) (b : Bool) :
    crcBit reg b = if reg.getLsbD 15 = b then reg <<< 1 else (reg <<< 1) ^^^ 4129#16 := by
  unfold crcBit
  rw [BitVec.msb_eq_getLsbD_last]
  cases reg.getLsbD 15 <;> cases b <;> simp

theorem crcBits_eq_foldl (n : Nat) (reg w : Word) :
    crcBits n reg w = ((List.range n).map fun i => w.getLsbD (n - 1 - i)).foldl crcBit reg := by
  induction n generalizing reg with
  | zero => rfl
  | succ n ih =>
    rw [crcBits, ih, List.range_succ_eq_map, List.map_cons, List.foldl_cons, List.map_map]
    have hbits : ((fun i => w.getLsbD (n + 1 - 1 - i)) ∘ Nat.succ) = fun i => w.getLsbD (n - 1 - i) := by
      funext i
      rw [Function.comp_apply, show n + 1 - 1 - Nat.succ i = n - 1 - i by omega]
    rw [hbits]
    rfl

theorem checkWord_append (ws : List Word) (w : Word) : checkWord (ws ++ [w]) = crcWord (checkWord ws) w := by
  rw [checkWord, List.foldl_append]
  rfl

theorem passesCheck_iff (ws : List Word) (d whole : Bool) :
    passesCheck ws d whole = true ↔ d = true ∧ whole = true ∧ ∃ front, front ≠ [] ∧ ws = front ++ [checkWord front] := by
  simp only [passesCheck, Bool.and_eq_true, decide_eq_true_eq, beq_iff_eq]
  constructor
  · rintro ⟨⟨⟨hd, hwhole⟩, hlength⟩, hlast⟩
    refine ⟨hd, hwhole, ws.dropLast, fun hnone => ?_, (List.dropLast_append_getLast? _ hlast).symm⟩
    have hshort := congrArg List.length hnone
    rw [List.length_dropLast, List.length_nil] at hshort
    omega
  · rintro ⟨hd, hwhole, front, hfront, rfl⟩
    have hlength := List.length_pos_iff.mpr hfront
    refine ⟨⟨⟨hd, hwhole⟩, ?_⟩, ?_⟩
    · rw [List.length_append, List.length_singleton]
      omega
    · rw [List.getLast?_concat, List.dropLast_concat]

theorem passesCheck_sealFrame {ws : List Word} (h : ws ≠ []) : passesCheck (sealFrame ws) true true = true :=
  (passesCheck_iff _ _ _).mpr ⟨rfl, rfl, ws, h, rfl⟩

/-! ### Frames (R163, R167, R180) -/

theorem frame_parts (h c : Word) (payload : List Word) :
    frameHeader (h :: payload ++ [c]) = h ∧ framePayload (h :: payload ++ [c]) = payload :=
  ⟨rfl, List.dropLast_concat⟩

theorem wellFormatted_iff (h c : Word) (payload : List Word) :
    wellFormatted (h :: payload ++ [c]) = true ↔ headerLength h ≤ 8 ∧ payload.length = headerLength h := by
  obtain ⟨hheader, hpayload⟩ := frame_parts h c payload
  rw [wellFormatted, hheader, hpayload, Bool.and_eq_true, decide_eq_true_eq, decide_eq_true_eq]

/-- Settles O10: fields are read back by arithmetic on the word's number, and the check word by its definition. -/
theorem framesAreBuiltAndSealed : Obligations.FramesAreBuiltAndSealed := by
  refine ⟨fun node tag x data hlength => ?_, ⟨headerWord_fields, headerWord_of_fields, requestWord_fields⟩,
    ⟨crcBit_eq, fun reg w => crcBits_eq_foldl 16 reg w, rfl, checkWord_append, fun ws h => passesCheck_sealFrame h,
      passesCheck_iff⟩,
    ⟨fun h c payload => ⟨rfl, (frame_parts h c payload).2, wellFormatted_iff h c payload⟩, headerWord_toNat,
      requestWord_toNat⟩,
    rfl, rfl, rfl, fun _ _ => rfl, rfl, rfl, rfl, fun _ => rfl⟩
  obtain ⟨hkind, hlen, hident⟩ := headerWord_fields kindReply (BitVec.ofNat 4 (1 + data.length)) (node.setWidth 9)
  have hcount : headerLength (headerWord kindReply (BitVec.ofNat 4 (1 + data.length)) (node.setWidth 9)) =
      1 + data.length := by
    rw [hlen, BitVec.toNat_ofNat]
    omega
  have hnode : (node.setWidth 9).toNat = node.toNat := by
    have hlt := node.isLt
    rw [BitVec.toNat_setWidth]
    omega
  refine ⟨hkind, hcount, hident.trans hnode, passesCheck_sealFrame (by simp), ?_, replyWord tag x,
    (frame_parts _ _ _).2, (replyWord_fields tag x).1, (replyWord_fields tag x).2.1, ?_⟩
  · refine (wellFormatted_iff _ _ (replyWord tag x :: data)).mpr ?_
    rw [hcount, List.length_cons]
    omega
  · rw [(replyWord_fields tag x).2.2]
    cases x <;> rfl

/-! ### Rounding (00_scope.md 5.4), the interpolation step (R62) and the duty (R109) -/

theorem roundHalfUp_bounds {d : Nat} (m : Nat) (hd : 0 < d) :
    2 * (roundHalfUp m d * d) ≤ 2 * m + d ∧ 2 * m + d < 2 * (roundHalfUp m d * d) + 2 * d := by
  rw [roundHalfUp, if_neg (Nat.ne_of_gt hd)]
  have hle := Nat.div_mul_le_self (2 * m + d) (2 * d)
  have hlt := Nat.lt_div_mul_add (a := 2 * m + d) (b := 2 * d) (by omega)
  have hcomm : (2 * m + d) / (2 * d) * (2 * d) = 2 * ((2 * m + d) / (2 * d) * d) := by ring
  omega

theorem roundAway_eq {d : Nat} (n : Int) (hd : 0 < d) : roundAway n d = n.sign * roundHalfUp n.natAbs d := by
  rw [roundAway, roundHalfUp, if_neg (Nat.ne_of_gt hd), if_neg (Nat.ne_of_gt hd)]

theorem roundAway_nearest {d : Nat} (n : Int) (hd : 0 < d) :
    2 * (n - roundAway n d * d).natAbs ≤ d ∧
      (2 * (n - roundAway n d * d).natAbs = d → n.natAbs < (roundAway n d).natAbs * d) := by
  obtain ⟨hle, hlt⟩ := roundHalfUp_bounds n.natAbs hd
  rw [roundAway_eq n hd]
  generalize hq : roundHalfUp n.natAbs d = q at hle hlt
  have hcast : ((q * d : Nat) : Int) = (q : Int) * d := by push_cast; rfl
  rcases lt_trichotomy n 0 with hneg | rfl | hpos
  · rw [Int.sign_eq_neg_one_of_neg hneg]
    have hprod : (-1 : Int) * q * d = -((q * d : Nat) : Int) := by rw [hcast]; ring
    rw [hprod, Int.natAbs_mul, Int.natAbs_neg, Int.natAbs_one, Nat.one_mul, Int.natAbs_natCast]
    omega
  · simp
    omega
  · rw [Int.sign_eq_one_of_pos hpos, Int.one_mul, ← hcast, Int.natAbs_natCast]
    omega

theorem interpolate_between (lo hi frac : Nat) (hfrac : frac ≤ 256) :
    ((interpolate lo hi frac : Nat) : Int) = lo + (((hi : Int) - lo) * frac + 128) / 256 ∧
      min lo hi ≤ interpolate lo hi frac ∧ interpolate lo hi frac ≤ max lo hi := by
  have hrise : (((hi : Int) - lo) * frac + 128) / 256 ≤ max 0 ((hi : Int) - lo) ∧
      min 0 ((hi : Int) - lo) ≤ (((hi : Int) - lo) * frac + 128) / 256 := by
    have hfrac' : (frac : Int) ≤ 256 := by exact_mod_cast hfrac
    rcases le_total (lo : Int) hi with hup | hdown
    · have hlow := mul_nonneg (sub_nonneg.mpr hup) (Int.natCast_nonneg frac)
      have hhigh := mul_le_mul_of_nonneg_left hfrac' (sub_nonneg.mpr hup)
      omega
    · have hlow := mul_nonneg (sub_nonneg.mpr hdown) (Int.natCast_nonneg frac)
      have hhigh := mul_le_mul_of_nonneg_left hfrac' (sub_nonneg.mpr hdown)
      have hneg : ((hi : Int) - lo) * frac = -(((lo : Int) - hi) * frac) := by ring
      omega
  unfold interpolate
  omega

/-- Settles O12: each quotient's two bounds, and the sign or the slope by cases. -/
theorem roundingInterpolationAndDuty : Obligations.RoundingInterpolationAndDuty := by
  refine ⟨⟨fun n d hd => ?_, fun lo hi frac hfrac => ?_⟩, fun s c i hsample => ?_⟩
  · obtain ⟨hle, htie⟩ := roundAway_nearest n hd
    refine ⟨hle, htie, fun m => ?_⟩
    obtain ⟨hle, hlt⟩ := roundHalfUp_bounds m hd
    have hcast : ((roundHalfUp m d * d : Nat) : Int) = (roundHalfUp m d : Int) * d := by push_cast; rfl
    omega
  · obtain ⟨heq, hmin, hmax⟩ := interpolate_between lo hi frac hfrac
    refine ⟨heq, ?_, ?_, hmin, hmax⟩
    · have hzero := (interpolate_between lo hi 0 (by omega)).1
      simp only [Nat.cast_zero, mul_zero] at hzero
      omega
    · have hone := (interpolate_between lo hi 256 (le_refl _)).1
      push_cast at hone
      omega
  · obtain ⟨hle, hlt⟩ := roundHalfUp_bounds (i * s.tables.active.resistance c) hsample
    dsimp only
    unfold feedForward Config.dutyMax
    generalize hq : roundHalfUp (i * s.tables.active.resistance c) s.supply.sample = q at hle hlt
    refine ⟨Nat.min_le_left _ _, fun hzero => ?_, fun hbelow => ?_, fun hfull => ?_⟩
    · rw [hzero, Nat.zero_mul] at hle
      have hq0 : q * s.supply.sample < 1 * s.supply.sample := by omega
      have hq1 := Nat.lt_of_mul_lt_mul_right hq0
      omega
    · have hmin : min 980 q = q := by omega
      rw [hmin]
      have hdouble : (2 * (q : Int)) * s.supply.sample = ((2 * (q * s.supply.sample) : Nat) : Int) := by push_cast; ring
      have hnext : (2 * (q : Int) + 2) * s.supply.sample =
          ((2 * (q * s.supply.sample) + 2 * s.supply.sample : Nat) : Int) := by push_cast; ring
      rw [hdouble, hnext]
      constructor <;> omega
    · have hlarge : 980 * s.supply.sample ≤ q * s.supply.sample := Nat.mul_le_mul_right _ (by omega)
      omega

end Sys2Proof.Machine

/-! The completion of a cycle (chapters 1, 4, 5 and 6): what it leaves as it was, the preview, the schedule and the valve
map. -/

namespace Sys2Proof.Machine

/-! ### Flags that the Drive Unit may set -/

theorem flagsKept_abortTest (c : Corner) (s : State) : FlagsKept [.insertLost] s (abortTest c s) :=
  .of_isSet fun _ hg => abortTest_isSet c s hg

theorem flagsKept_toBoost (c : Corner) (i : Nat) (s : State) : FlagsKept [.insertLost] s (toBoost c i s) := by
  unfold toBoost
  exact flagsKept_abortTest c ((enter c (.boost s.tables.active.boostTimeout) i s).setSlots (s.drive.slots ++ [c]))

theorem flagsKept_toWait (c : Corner) (i : Nat) (s : State) : FlagsKept [.insertLost] s (toWait c i s) := by
  unfold toWait
  exact flagsKept_abortTest c
    ((enter c (.wait (s.corner c).target) i s).setWaiting (s.drive.waiting ++ [c]))

theorem flagsKept_requestBoost (c : Corner) (i : Nat) (s : State) :
    FlagsKept [.insertLost] s (requestBoost c i s) := by
  unfold requestBoost
  split
  · exact flagsKept_toBoost c i s
  · exact flagsKept_toWait c i s

theorem flagsKept_grantHead (s : State) : FlagsKept [.insertLost] s (grantHead s) := by
  unfold grantHead
  split
  · exact .of_agree rfl
  · next c rest _ =>
    split
    · exact flagsKept_toBoost c (s.corner c).target (s.setWaiting rest)
    · exact .of_agree rfl

theorem flagsKept_endBoost (c : Corner) (i : Nat) (s : State) : FlagsKept [.insertLost] s (endBoost c i s) :=
  flagsKept_grantHead ((toHold c i s).setSlots ((toHold c i s).drive.slots.erase c))

theorem flagsKept_retarget (c : Corner) (i : Nat) (s : State) : FlagsKept [.insertLost] s (retarget c i s) := by
  unfold retarget
  dsimp only
  split <;> exact .of_agree rfl

theorem flagsKept_updateTarget (c : Corner) (i : Nat) (s : State) :
    FlagsKept [.insertLost] s (updateTarget c i s) := by
  unfold updateTarget
  dsimp only
  split
  case h_1 | h_2 => exact .of_agree rfl
  case h_3 =>
    split
    · exact flagsKept_requestBoost _ _ s
    · exact flagsKept_retarget _ _ s
  case h_4 =>
    split
    · exact flagsKept_retarget _ _ s
    · exact .of_agree rfl
  case h_5 =>
    split
    · exact .of_agree rfl
    · exact flagsKept_endBoost _ _ s

theorem flagsKept_deliverTogether (v : PerCorner Nat) (s : State) :
    FlagsKept [.insertLost] s (deliverTogether v s) := by
  unfold deliverTogether
  dsimp only
  exact ((FlagsKept.foldl (fun s' _ => flagsKept_updateTarget _ _ s') _ _).trans
    (FlagsKept.foldl (fun s' _ => flagsKept_updateTarget _ _ s') _ _)).trans
      (FlagsKept.foldl (fun s' _ => flagsKept_requestBoost _ _ s') _ _)

theorem flagsKept_deliver (b : Bank) (v : PerCorner Nat) (s : State) : FlagsKept [.insertLost] s (deliver b v s) := by
  unfold deliver
  dsimp only
  split
  · exact flagsKept_updateTarget .fl v.fl (cancelStaggered s)
  · exact flagsKept_deliverTogether v (cancelStaggered s)

theorem flagsKept_makeReport (y : Cycle) (s : State) : FlagsKept [.insertLost] s (makeReport y s) := by
  unfold makeReport
  split
  · exact .of_isSet fun _ hg => offerFrame_isSet _ _ _ s hg
  · exact .of_agree rfl

theorem flagsKept_stageDelivery (y : Cycle) (s : State) : FlagsKept [.insertLost] s (stageDelivery y s) := by
  unfold stageDelivery
  split
  · exact flagsKept_makeReport y s
  · exact (flagsKept_deliver _ _ s).trans (flagsKept_makeReport y _)

/-! ### What every stage of a cycle leaves as it was (R15) -/

/-- The engine's items that only the start of a cycle, a request or the end of a computation writes. -/
def SameControl (e n : Engine) : Prop :=
  n.programme = e.programme ∧ n.pendingProgramme = e.pendingProgramme ∧ n.flushOwed = e.flushOwed

theorem sameControl_detectSide (y : Cycle) (d : Side) (e : Engine) : SameControl e (detectSide y d e) := by
  unfold detectSide openEvent
  dsimp only
  split
  · exact ⟨rfl, rfl, rfl⟩
  · split <;> split
    case h_1.isTrue => split <;> exact ⟨rfl, rfl, rfl⟩
    all_goals exact ⟨rfl, rfl, rfl⟩

theorem sameControl_stagePreview (y : Cycle) (e : Engine) : SameControl e (stagePreview y e) := by
  unfold stagePreview
  dsimp only
  split
  · obtain ⟨hp, hq, hf⟩ := sameControl_detectSide y .left (stageTake y { e with previewActive := previewIsActive y })
    obtain ⟨hp', hq', hf'⟩ :=
      sameControl_detectSide y .right (detectSide y .left (stageTake y { e with previewActive := previewIsActive y }))
    exact ⟨hp'.trans hp, hq'.trans hq, hf'.trans hf⟩
  · exact ⟨rfl, rfl, rfl⟩

theorem sameControl_computeCycle (y : Cycle) (e : Engine) : SameControl e (computeCycle y e) :=
  sameControl_stagePreview y (stageOdometer y (stageMotion y e))

/-- A completion keeps the programmes, and no flush stays owed (R18). -/
theorem finishCycle_control (y : Cycle) (e : Engine) :
    (finishCycle y e).programme = e.programme ∧ (finishCycle y e).pendingProgramme = e.pendingProgramme ∧
      (finishCycle y e).flushOwed = false := by
  obtain ⟨hprogramme, hpending, -⟩ := sameControl_computeCycle y e
  unfold finishCycle
  dsimp only
  split
  · exact ⟨hprogramme, hpending, rfl⟩
  · next howed => exact ⟨hprogramme, hpending, by simpa using howed⟩

theorem finishCycle_queue_of_owed {y : Cycle} {e : Engine} (h : e.flushOwed = true) :
    (finishCycle y e).queue = [] ∧ (finishCycle y e).sides = ⟨.armed, .armed⟩ := by
  obtain ⟨-, -, howed⟩ := sameControl_computeCycle y e
  unfold finishCycle
  dsimp only
  rw [howed, h, if_pos rfl]
  exact ⟨rfl, rfl⟩

theorem finishCycle_queue_of_not_owed {y : Cycle} {e : Engine} (h : e.flushOwed = false) :
    (finishCycle y e).queue = (computeCycle y e).queue ∧ (finishCycle y e).sides = (computeCycle y e).sides := by
  obtain ⟨-, -, howed⟩ := sameControl_computeCycle y e
  unfold finishCycle
  dsimp only
  rw [howed, h, if_neg Bool.false_ne_true]
  exact ⟨rfl, rfl⟩

theorem stageDelivery_of_hold {y : Cycle} (h : y.hold = true) (s : State) : stageDelivery y s = makeReport y s := by
  simp [stageDelivery, h]

theorem writeResults_mgmt (y : Cycle) (s : State) :
    (writeResults y s).mgmt.executing = s.mgmt.executing ∧ (writeResults y s).mgmt.queue = s.mgmt.queue := by
  unfold writeResults setFlagIf
  split <;> exact ⟨rfl, rfl⟩

/-- Settles O15: the results are written to the engine alone, and in a hold cycle the report alone follows. -/
theorem holdCyclesDeliverNothing : Obligations.HoldCyclesDeliverNothing := by
  intro s hrun
  refine ⟨fun hidle => by simp [exec, execComputationCompletion, hrun, hidle], fun y hy => ?_⟩
  obtain ⟨hprogramme, hpending, howed⟩ := finishCycle_control y s.engine
  refine ⟨_, exec_computationCompletion hy, by simp, by simpa using howed, fun h => ?_, by simpa using hprogramme,
    by simpa using hpending, by simp, by simp, by simp, by simp, by simp, fun hhold => ?_⟩
  · simpa using finishCycle_queue_of_owed (y := y) h
  · obtain ⟨hexecuting, hqueue⟩ := writeResults_mgmt y s
    rw [stageDelivery_of_hold hhold]
    simp [hexecuting, hqueue]

/-! ### Preview (R74 to R88) -/

theorem previewIsActive_iff (y : Cycle) :
    previewIsActive y = true ↔
      y.bank.previewEnable = 1 ∧ y.snapshot.speed.stale = false ∧
        (y.bank.minimumSpeed : Int) ≤ y.snapshot.speed.value := by
  simp [previewIsActive, and_assoc]

/-- An owed flush (R18) leaves the windows and the preview-full count alone. -/
theorem finishCycle_windows (y : Cycle) (e : Engine) :
    (finishCycle y e).windows = (computeCycle y e).windows ∧
      (finishCycle y e).previewFull = (computeCycle y e).previewFull := by
  unfold finishCycle
  dsimp only
  split <;> exact ⟨rfl, rfl⟩

theorem computeCycle_windows (y : Cycle) (e : Engine) (d : Side) :
    (computeCycle y e).windows.get d = countDown y.k ((forceInput y e).windows.get d) := by
  cases d <;> rfl

/-- Two engines agree on what stage 6 reads and writes. -/
def SameEvents (e n : Engine) : Prop :=
  n.est = e.est ∧ n.odometer = e.odometer ∧ n.queue = e.queue ∧ n.sides = e.sides ∧ n.previewFull = e.previewFull

theorem sameEvents_detectSide (y : Cycle) (d : Side) {e n : Engine} (h : SameEvents e n) :
    SameEvents (detectSide y d e) (detectSide y d n) := by
  obtain ⟨hest, hodo, hqueue, hsides, hfull⟩ := h
  cases e
  cases n
  dsimp only at hest hodo hqueue hsides hfull
  subst hest hodo hqueue hsides hfull
  unfold detectSide openEvent
  dsimp only
  split
  · exact ⟨rfl, rfl, rfl, rfl, rfl⟩
  · split <;> split
    case h_1.isTrue => split <;> exact ⟨rfl, rfl, rfl, rfl, rfl⟩
    all_goals exact ⟨rfl, rfl, rfl, rfl, rfl⟩

theorem stagePreview_of_active {y : Cycle} (h : previewIsActive y = true) (e : Engine) :
    stagePreview y e =
      detectSide y .right (detectSide y .left (stageTake y { e with previewActive := previewIsActive y })) := by
  unfold stagePreview
  dsimp only
  rw [if_pos h]

theorem stagePreview_of_inactive {y : Cycle} (h : previewIsActive y = false) (e : Engine) :
    stagePreview y e = ({ e with previewActive := previewIsActive y } : Engine).flushPreview := by
  unfold stagePreview
  dsimp only
  rw [if_neg (by rw [h]; decide)]

/-- Stages 7 to 9 keep what stages 5 and 6 make of the queue, the sides and the preview-full count. -/
theorem computeCycle_events (y : Cycle) (e : Engine) :
    (computeCycle y e).queue = (stagePreview y (stageOdometer y (stageMotion y e))).queue ∧
      (computeCycle y e).sides = (stagePreview y (stageOdometer y (stageMotion y e))).sides ∧
      (computeCycle y e).previewFull = (stagePreview y (stageOdometer y (stageMotion y e))).previewFull :=
  ⟨rfl, rfl, rfl⟩

/-- The finished engine as stage 6 finds it: the queue as stage 5 leaves it, the sides and the count as before the cycle. -/
def beforeDetection (y : Cycle) (e : Engine) : Engine :=
  { finishCycle y e with
    queue := (takeDue y.bank (finishCycle y e).odometer e.queue e.windows).1
    sides := e.sides
    previewFull := e.previewFull }

theorem computeCycle_detects {y : Cycle} (h : previewIsActive y = true) (e : Engine) :
    SameEvents (detectSide y .right (detectSide y .left (beforeDetection y e)))
      (stagePreview y (stageOdometer y (stageMotion y e))) := by
  rw [stagePreview_of_active h]
  refine sameEvents_detectSide y .right (sameEvents_detectSide y .left ⟨?_, ?_, ?_, rfl, rfl⟩)
  · rw [beforeDetection, (finishCycle_motion y e).1, (computeCycle_motion y e).1]
    rfl
  · exact (finishCycle_odometer y e).symm
  · rw [beforeDetection, finishCycle_odometer]
    rfl

theorem finishCycle_flushes {y : Cycle} (h : previewIsActive y = false) (e : Engine) :
    (finishCycle y e).queue = [] ∧ (finishCycle y e).sides = ⟨.armed, .armed⟩ ∧
      (finishCycle y e).previewFull = e.previewFull := by
  obtain ⟨hqueue, hsides, hfull⟩ := computeCycle_events y e
  rw [stagePreview_of_inactive h] at hqueue hsides hfull
  have hcount : (finishCycle y e).previewFull = e.previewFull := (finishCycle_windows y e).2.trans hfull
  cases howed : e.flushOwed with
  | true => exact ⟨(finishCycle_queue_of_owed howed).1, (finishCycle_queue_of_owed howed).2, hcount⟩
  | false =>
    obtain ⟨hkeptq, hkepts⟩ := finishCycle_queue_of_not_owed (y := y) howed
    exact ⟨hkeptq.trans hqueue, hkepts.trans hsides, hcount⟩

theorem finishCycle_window (y : Cycle) (e : Engine) (d : Side) :
    (finishCycle y e).windows.get d =
      countDown y.k
        ((if (finishCycle y e).previewActive then
          (takeDue y.bank (finishCycle y e).odometer e.queue e.windows).2 else e.windows).get d) := by
  rw [(finishCycle_windows y e).1, computeCycle_windows, forceInput_windows]

theorem writeResults_previewFull (y : Cycle) (s : State) :
    Flag.previewFull.isSet (writeResults y s).mgmt.flags =
      (Flag.previewFull.isSet s.mgmt.flags ||
        decide ((finishCycle y s.engine).previewFull ≠ s.engine.previewFull)) := by
  rw [(finishCycle_windows y s.engine).2]
  exact setFlagIf_isSet _ .previewFull { s with engine := finishCycle y s.engine }

theorem flagsKept_writeResults (y : Cycle) (s : State) : FlagsKept [.previewFull] s (writeResults y s) :=
  flagsKept_setFlagIf _ .previewFull { s with engine := finishCycle y s.engine }

/-- Settles O18: stages 5 and 6 run where preview is ACTIVE (R74) and are flushed where it is not (R75); stage 8 counts the
windows down last. -/
theorem cyclesRunOrFlushThePreview : Obligations.CyclesRunOrFlushThePreview := by
  intro s y hy
  refine ⟨_, exec_computationCompletion hy, ?_, ?_, ?_, ?_, ?_⟩
  · simpa [finishCycle_previewActive] using previewIsActive_iff y
  · simp only [stageDelivery_engine, writeResults_engine, finishCycle_previewActive]
    intro hinactive
    obtain ⟨hqueue, hsides, hfull⟩ := finishCycle_flushes hinactive s.engine
    refine ⟨hqueue, hsides, hfull, fun d => ?_⟩
    rw [finishCycle_window, finishCycle_previewActive, hinactive]
    rfl
  · simp only [stageDelivery_engine, writeResults_engine]
    intro hshown
    have hactive : previewIsActive y = true := (finishCycle_previewActive y s.engine).symm.trans hshown
    obtain ⟨-, -, hqueue, hsides, hfull⟩ := computeCycle_detects hactive s.engine
    refine ⟨fun howed => ?_, (finishCycle_windows y s.engine).2.trans hfull, fun d => ?_⟩
    · obtain ⟨hkeptq, hkepts⟩ := finishCycle_queue_of_not_owed (y := y) howed
      exact ⟨hkeptq.trans hqueue, hkepts.trans hsides⟩
    · rw [finishCycle_window, finishCycle_previewActive, hactive]
      rfl
  · rw [flagsKept_stageDelivery y (writeResults y s) .previewFull (by decide), writeResults_previewFull]
    simp
  · exact ((flagsKept_writeResults y s).mono).trans ((flagsKept_stageDelivery y _).mono)

/-! ### Due entries (R78 to R81) -/

theorem takeDue_takes (b : Bank) (odometer : Count) (q : List PreviewEntry) (ws : PerSide Window) :
    ∃ taken, q = taken ++ (takeDue b odometer q ws).1 ∧ (∀ p ∈ taken, isDue b.wheelbase odometer p = true) ∧
      (∀ p ps, (takeDue b odometer q ws).1 = p :: ps → isDue b.wheelbase odometer p = false) ∧
      (takeDue b odometer q ws).2 = taken.foldl (fun v p => applyEntry b p v) ws := by
  induction q generalizing ws with
  | nil => exact ⟨[], rfl, by simp, by simp [takeDue], rfl⟩
  | cons p q ih =>
    rw [takeDue]
    split
    · next hdue =>
      obtain ⟨taken, hsplit, htaken, hrest, hwindows⟩ := ih (applyEntry b p ws)
      refine ⟨p :: taken, congrArg (p :: ·) hsplit, ?_, hrest, hwindows⟩
      simpa [hdue] using htaken
    · next hdue =>
      refine ⟨[], rfl, by simp, fun x xs hx => ?_, rfl⟩
      rw [← (List.cons.inj hx).1]
      simpa using hdue

/-- Of increasing lower bounds the one of band `i` is the highest at or below the peak. -/
theorem bandOf_of_between {b : Bank} {peak i : Nat} (h01 : b.bandBound 0 < b.bandBound 1)
    (h12 : b.bandBound 1 < b.bandBound 2) (h23 : b.bandBound 2 < b.bandBound 3) (hi : i ≤ 3)
    (hlow : b.bandBound i ≤ peak) (hhigh : i < 3 → peak < b.bandBound (i + 1)) : bandOf b peak = some i := by
  unfold bandOf
  interval_cases i <;> simp only [Nat.reduceAdd] at hhigh
  · have hlater : ¬ b.bandBound 1 ≤ peak ∧ ¬ b.bandBound 2 ≤ peak ∧ ¬ b.bandBound 3 ≤ peak := by omega
    simp [hlow, hlater]
  · have hother : b.bandBound 0 ≤ peak ∧ ¬ b.bandBound 2 ≤ peak ∧ ¬ b.bandBound 3 ≤ peak := by omega
    simp [hlow, hother, h01.le]
  · have hother : b.bandBound 0 ≤ peak ∧ b.bandBound 1 ≤ peak ∧ ¬ b.bandBound 3 ≤ peak := by omega
    simp [hlow, hother, h01.le, h12.le]
  · have hearlier : b.bandBound 0 ≤ peak ∧ b.bandBound 1 ≤ peak ∧ b.bandBound 2 ≤ peak := by omega
    simp [hlow, hearlier, h01.le, h12.le, h23.le]

theorem bandOf_of_below {b : Bank} {peak : Nat} (h01 : b.bandBound 0 < b.bandBound 1)
    (h12 : b.bandBound 1 < b.bandBound 2) (h23 : b.bandBound 2 < b.bandBound 3) (hlow : peak < b.bandBound 0) :
    bandOf b peak = none := by
  unfold bandOf
  simp only [List.foldl_cons, List.foldl_nil]
  rw [if_neg (by omega), if_neg (by omega), if_neg (by omega), if_neg (by omega)]

theorem applyEntry_of_band {b : Bank} {p : PreviewEntry} {i : Nat} (h : bandOf b p.peak = some i) (ws : PerSide Window) :
    applyEntry b p ws = ws.set p.side (openWindow b i (ws.get p.side)) := by
  simp [applyEntry, h]

theorem applyEntry_other (b : Bank) (p : PreviewEntry) (ws : PerSide Window) {d : Side} (h : d ≠ p.side) :
    (applyEntry b p ws).get d = ws.get d := by
  unfold applyEntry
  split
  · rfl
  · exact PerSide.get_set_ne _ _ h

/-- Settles O19: the walk of stage 5 by induction on the queue, and the band of a peak among increasing bounds. -/
theorem dueEntriesOpenRearWindows : Obligations.DueEntriesOpenRearWindows := by
  constructor
  · intro b odometer q ws
    obtain ⟨taken, hsplit, htaken, hrest, hwindows⟩ := takeDue_takes b odometer q ws
    refine ⟨taken, hsplit, fun p hp => by simpa [isDue] using htaken p hp, fun p ps hps => ?_, hwindows⟩
    simpa [isDue] using hrest p ps hps
  · intro b p ws h01 h12 h23
    refine ⟨fun hlow => by simp [applyEntry, bandOf_of_below h01 h12 h23 hlow], fun i hi hlow hhigh => ?_,
      fun d hd => applyEntry_other b p ws hd⟩
    rw [applyEntry_of_band (bandOf_of_between h01 h12 h23 hi hlow hhigh), PerSide.get_set_same]
    exact ⟨rfl, rfl⟩

/-! ### Front events (R83 to R87) -/

theorem openEvent_of_room {d : Side} {v : Int} {e : Engine} (h : e.queue.length < 16) :
    openEvent d v e =
      { e with
        sides := e.sides.set d .inEvent
        queue := e.queue ++
          [{ side := d, kind := if 0 < v then .bump else .dip, stamp := e.odometer, peak := v.natAbs, isOpen := true }] } :=
  if_pos h

theorem openEvent_of_full {d : Side} {v : Int} {e : Engine} (h : 16 ≤ e.queue.length) :
    openEvent d v e = { e with sides := e.sides.set d .inEvent, previewFull := e.previewFull + 1 } :=
  if_neg (Nat.not_lt.mpr h)

/-- Settles O20: the rows of R83, each one branch of the detection. -/
theorem frontEventsAreDetected : Obligations.FrontEventsAreDetected := by
  intro y d e
  refine ⟨fun hstale => ?_, fun hfresh harmed => ⟨fun hlow => ?_, fun hhigh hroom => ?_, fun hhigh hfull => ?_⟩,
    fun hfresh hevent => ⟨fun hlow => ?_, fun hhigh => ?_⟩⟩
  · simp [detectSide, hstale, armSide, closeEntry]
  · simp [detectSide, hfresh, harmed, Nat.not_le.mpr hlow]
  · rw [← openEvent_of_room hroom]
    simp [detectSide, hfresh, harmed, hhigh]
  · rw [← openEvent_of_full (d := d) (v := (e.est.get (frontOf d)).lastVd) hfull]
    simp [detectSide, hfresh, harmed, hhigh]
  · simp [detectSide, hfresh, hevent, hlow, armSide, closeEntry]
  · simp [detectSide, hfresh, hevent, Nat.not_lt.mpr hhigh, raisePeak]

end Sys2Proof.Machine

/-! The schedule of a completed cycle and the valve map (R59 to R63, R97 to R100): an input's segment on an axis of eight
increasing points. -/

namespace Sys2Proof.Machine

/-! ### The segment of an input -/

section
variable {point : Nat → Nat} (hincr : ∀ n, n < 7 → point n < point (n + 1))
include hincr

theorem point_mono {i j : Nat} (hij : i ≤ j) (hj : j ≤ 7) : point i ≤ point j := by
  induction j, hij using Nat.le_induction with
  | base => exact le_refl _
  | succ j _ ih => exact (ih (by omega)).trans (hincr j (by omega)).le

/-- Of increasing points the segment that holds the input is the first whose upper point lies above it. -/
theorem segmentOf_eq {i x : Nat} (hi : i < 7) (hlow : point i ≤ x) (hhigh : x < point (i + 1)) :
    segmentOf point x = i := by
  have hfirst : (List.range 7).find? (fun j => decide (point j ≤ x ∧ x < point (j + 1))) = some i := by
    rw [List.find?_range_eq_some]
    refine ⟨by simp [hlow, hhigh], by simpa using hi, fun j hj => ?_⟩
    have hbelow : point (j + 1) ≤ x := (point_mono hincr (by omega) (by omega)).trans hlow
    simp [Nat.not_lt.mpr hbelow]
  rw [segmentOf, hfirst]
  rfl

theorem place_inside {i x : Nat} (hi : i < 7) (hlow : point i ≤ x) (hhigh : x < point (i + 1)) :
    place point (clampAxis point x) = (i, (x - point i) * 256 / (point (i + 1) - point i)) := by
  have hfirst : point 0 ≤ x := (point_mono hincr (by omega) (by omega)).trans hlow
  have hlast : x < point 7 := lt_of_lt_of_le hhigh (point_mono hincr (by omega) (by omega))
  rw [clampAxis, clampNat_of_mem hfirst hlast.le, place, if_neg (Nat.not_le.mpr hlast), segmentOf_eq hincr hi hlow hhigh]
  rfl

theorem place_beyond {x : Nat} (hhigh : point 7 ≤ x) : place point (clampAxis point x) = (6, 256) := by
  have hends : point 0 ≤ point 7 := point_mono hincr (by omega) (by omega)
  have hclamped : clampAxis point x = point 7 := by
    unfold clampAxis clampNat
    split_ifs <;> omega
  rw [hclamped, place, if_pos (le_refl _)]

theorem clampAxis_below {x : Nat} (hlow : x ≤ point 0) : clampAxis point x = clampAxis point (point 0) := by
  have hends : point 0 ≤ point 7 := point_mono hincr (by omega) (by omega)
  unfold clampAxis clampNat
  split_ifs <;> omega

end

theorem segmentFraction_le {x lo hi : Nat} (hlow : lo ≤ x) (hhigh : x < hi) : (x - lo) * 256 / (hi - lo) ≤ 256 := by
  refine Nat.div_le_of_le_mul ?_
  have hshort : x - lo ≤ hi - lo := by omega
  calc (x - lo) * 256 ≤ (hi - lo) * 256 := Nat.mul_le_mul_right _ hshort
    _ = (hi - lo) * 256 := rfl

@[simp] theorem interpolate_last (lo hi : Nat) : interpolate lo hi 256 = hi := by
  have h := (interpolate_between lo hi 256 (le_refl _)).1
  push_cast at h
  omega

/-! ### The schedule (R59 to R63) -/

section
variable {b : Bank} {g : Programme} {x f : Nat}

theorem scheduleAt_below (h : x ≤ b.schedule g 0 0) : scheduleAt b g x f = b.schedule g 0 f := if_pos h

theorem scheduleAt_above (hincr : ∀ j, j < 7 → b.schedule g j 0 < b.schedule g (j + 1) 0) (h : b.schedule g 7 0 ≤ x) :
    scheduleAt b g x f = b.schedule g 7 f := by
  have hends : b.schedule g 0 0 < b.schedule g 7 0 :=
    lt_of_lt_of_le (hincr 0 (by omega)) (point_mono (point := fun j => b.schedule g j 0) hincr (by omega) (by omega))
  rw [scheduleAt, if_neg (by omega), if_pos h]

theorem scheduleAt_inside (hincr : ∀ j, j < 7 → b.schedule g j 0 < b.schedule g (j + 1) 0) {i : Nat} (hi : i < 7)
    (hlow : b.schedule g i 0 ≤ x) (hhigh : x < b.schedule g (i + 1) 0) (hfirst : b.schedule g 0 0 < x) :
    (scheduleAt b g x f : Int) = b.schedule g i f +
      (((b.schedule g (i + 1) f : Int) - b.schedule g i f) *
        ((x - b.schedule g i 0) * 256 / (b.schedule g (i + 1) 0 - b.schedule g i 0) : Nat) + 128) / 256 := by
  have hlast : x < b.schedule g 7 0 :=
    lt_of_lt_of_le hhigh (point_mono (point := fun j => b.schedule g j 0) hincr (by omega) (by omega))
  rw [scheduleAt, if_neg (by omega), if_neg (by omega), segmentOf_eq (point := fun j => b.schedule g j 0) hincr hi hlow hhigh]
  exact (interpolate_between _ _ _ (segmentFraction_le hlow hhigh)).1

end

theorem finishCycle_schedule (y : Cycle) (e : Engine) :
    (finishCycle y e).lookupSpeed = y.snapshot.speed.value.natAbs ∧
      (finishCycle y e).cSky = scheduleAt y.bank y.programme y.snapshot.speed.value.natAbs 1 ∧
      (finishCycle y e).cBase = scheduleAt y.bank y.programme y.snapshot.speed.value.natAbs 2 ∧
      (finishCycle y e).fMax = scheduleAt y.bank y.programme y.snapshot.speed.value.natAbs 3 := by
  unfold finishCycle
  dsimp only
  split <;> exact ⟨rfl, rfl, rfl, rfl⟩

/-- Settles O21: stage 7 reads each value at the lookup speed, whose three places on the axis are the three cases. -/
theorem scheduleIsInterpolatedAtTheSpeed : Obligations.ScheduleIsInterpolatedAtTheSpeed := by
  intro s y hy hincr
  obtain ⟨t, hexec, hengine⟩ := completion_engine hy
  obtain ⟨hspeed, hsky, hbase, hmax⟩ := finishCycle_schedule y s.engine
  refine ⟨t, hexec, hengine ▸ hspeed, ?_⟩
  intro pt x got f hmem
  have hgot : got = scheduleAt y.bank y.programme x f := by
    simp only [List.mem_cons, Prod.mk.injEq, List.not_mem_nil, or_false] at hmem
    rcases hmem with ⟨rfl, rfl⟩ | ⟨rfl, rfl⟩ | ⟨rfl, rfl⟩
    · rw [hengine, hsky]
    · rw [hengine, hbase]
    · rw [hengine, hmax]
  rw [hgot]
  exact ⟨scheduleAt_below, scheduleAt_above hincr, fun i hi hlow hhigh hfirst => scheduleAt_inside hincr hi hlow hhigh hfirst⟩

/-! ### The valve map (R97 to R100) -/

/-- Settles O23: the place of each input on its axis decides the cell, and a fraction of 256 the cell's upper end. -/
theorem valveMapTakesThreeSteps : Obligations.ValveMapTakesThreeSteps := by
  intro b x u f i j hi hj hvelocity hforce
  refine ⟨fun hu hu' hf hf' => ?_, fun hu hf hf' => ?_, fun hu hu' hf => ?_, fun hu hf => ?_, fun hu => ?_, fun hf => ?_⟩
  · rw [mapCurrentAt, place_inside hvelocity hi hu hu', place_inside hforce hj hf hf']
  · rw [mapCurrentAt, place_beyond hvelocity hu, place_inside hforce hj hf hf']
    exact interpolate_last _ _
  · rw [mapCurrentAt, place_inside hvelocity hi hu hu', place_beyond hforce hf]
    simp only [interpolate_last]
  · rw [mapCurrentAt, place_beyond hvelocity hu, place_beyond hforce hf]
    simp only [interpolate_last]
  · rw [mapCurrentAt, clampAxis_below hvelocity hu]
    rfl
  · rw [mapCurrentAt, clampAxis_below hforce hf]
    rfl

end Sys2Proof.Machine

/-! Deliveries and reports (R20, R122 to R124): the operations of the Drive Unit where no monitor test runs, and on states
that agree in what they read. -/

namespace Sys2Proof.Machine

/-! ### Operations that end no request (R138) -/

/-- No request has ended and nothing has been offered: the link, the Management Unit and the tests are as they were. -/
structure SameRequests (s t : State) : Prop where
  link : t.link = s.link
  mgmt : t.mgmt = s.mgmt
  test : ∀ d, (t.monitorOf d).test = (s.monitorOf d).test

section
variable {s t u : State}

theorem SameRequests.refl (s : State) : SameRequests s s := ⟨rfl, rfl, fun _ => rfl⟩

theorem SameRequests.trans (h : SameRequests s t) (g : SameRequests t u) : SameRequests s u :=
  ⟨g.link.trans h.link, g.mgmt.trans h.mgmt, fun d => (g.test d).trans (h.test d)⟩

theorem SameRequests.noTest (h : SameRequests s t) (hnone : NoTest s) : NoTest t := fun d => (h.test d).trans (hnone d)

theorem SameRequests.foldl {α : Type} {f : State → α → State} (hf : ∀ s a, NoTest s → SameRequests s (f s a)) (l : List α)
    {s : State} (hnone : NoTest s) : SameRequests s (l.foldl f s) := by
  induction l generalizing s with
  | nil => exact .refl s
  | cons a l ih => exact (hf s a hnone).trans (ih ((hf s a hnone).noTest hnone))

theorem sameRequests_startSettling (c : Corner) (s : State) : SameRequests s (startSettling c s) := by
  refine ⟨rfl, rfl, fun d => ?_⟩
  rw [monitorOf_startSettling]
  split
  · next hd => rw [hd]
  · rfl

theorem sameRequests_toHold (c : Corner) (i : Nat) (s : State) : SameRequests s (toHold c i s) :=
  SameRequests.trans (t := enter c .hold i s) ⟨rfl, rfl, fun _ => rfl⟩ (sameRequests_startSettling c _)

theorem sameRequests_retarget (c : Corner) (i : Nat) (s : State) : SameRequests s (retarget c i s) := by
  refine ⟨?_, ?_, fun d => test_retarget c d i s⟩
  all_goals
    unfold retarget
    dsimp only
    split <;> rfl

theorem sameRequests_toBoost {c : Corner} (i : Nat) (hnone : (s.monitorOf c).test = none) :
    SameRequests s (toBoost c i s) := by
  have hquiet : toBoost c i s =
      (enter c (.boost s.tables.active.boostTimeout) i s).setSlots (s.drive.slots ++ [c]) :=
    abortTest_none (c := c)
      (s := (enter c (.boost s.tables.active.boostTimeout) i s).setSlots (s.drive.slots ++ [c])) hnone
  rw [hquiet]
  exact ⟨rfl, rfl, fun _ => rfl⟩

theorem sameRequests_toWait {c : Corner} (i : Nat) (hnone : (s.monitorOf c).test = none) :
    SameRequests s (toWait c i s) := by
  have hquiet : toWait c i s =
      startSettling c ((enter c (.wait (s.corner c).target) i s).setWaiting (s.drive.waiting ++ [c])) :=
    congrArg (startSettling c) (abortTest_none (c := c)
      (s := (enter c (.wait (s.corner c).target) i s).setWaiting (s.drive.waiting ++ [c])) hnone)
  rw [hquiet]
  exact SameRequests.trans
    (t := (enter c (.wait (s.corner c).target) i s).setWaiting (s.drive.waiting ++ [c]))
    ⟨rfl, rfl, fun _ => rfl⟩ (sameRequests_startSettling c _)

theorem sameRequests_requestBoost {c : Corner} (i : Nat) (hnone : (s.monitorOf c).test = none) :
    SameRequests s (requestBoost c i s) := by
  unfold requestBoost
  split
  · exact sameRequests_toBoost i hnone
  · exact sameRequests_toWait i hnone

theorem sameRequests_grantHead (hnone : ∀ d ∈ s.drive.waiting, (s.monitorOf d).test = none) :
    SameRequests s (grantHead s) := by
  unfold grantHead
  split
  · exact .refl s
  · next d rest hwaiting =>
    split
    · exact SameRequests.trans (t := s.setWaiting rest) ⟨rfl, rfl, fun _ => rfl⟩
        (sameRequests_toBoost _ (hnone d (by simp [hwaiting])))
    · exact .refl s

theorem sameRequests_endBoost (c : Corner) (i : Nat) (hnone : ∀ d ∈ s.drive.waiting, (s.monitorOf d).test = none) :
    SameRequests s (endBoost c i s) := by
  have hheld := sameRequests_toHold c i s
  refine hheld.trans (SameRequests.trans (t := (toHold c i s).setSlots ((toHold c i s).drive.slots.erase c))
    ⟨rfl, rfl, fun _ => rfl⟩ (sameRequests_grantHead fun d hd => (hheld.test d).trans (hnone d ?_)))
  simpa using hd

/-- A target update ends no request but that of a test at its corner or at a corner on the pending list. -/
theorem sameRequests_updateTarget {c : Corner} (i : Nat) (hnone : (s.monitorOf c).test = none)
    (hwaiting : ∀ d ∈ s.drive.waiting, (s.monitorOf d).test = none) : SameRequests s (updateTarget c i s) := by
  unfold updateTarget
  dsimp only
  split
  case h_1 | h_2 => exact .refl s
  case h_3 =>
    split
    · exact sameRequests_requestBoost _ hnone
    · exact sameRequests_retarget _ _ s
  case h_4 =>
    split
    · exact sameRequests_retarget _ _ s
    · exact SameRequests.trans (t := s.setWaiting (s.drive.waiting.erase c)) ⟨rfl, rfl, fun _ => rfl⟩
        (sameRequests_toHold _ _ _)
  case h_5 =>
    split
    · exact ⟨rfl, rfl, fun _ => rfl⟩
    · exact sameRequests_endBoost _ _ hwaiting

theorem NoTest.updateTarget (hnone : NoTest s) (c : Corner) (i : Nat) : SameRequests s (updateTarget c i s) :=
  sameRequests_updateTarget i (hnone c) fun d _ => hnone d

theorem NoTest.deliverTogether (hnone : NoTest s) (v : PerCorner Nat) : SameRequests s (deliverTogether v s) := by
  unfold Machine.deliverTogether
  dsimp only
  have hwaits := SameRequests.foldl (f := fun s c => Machine.updateTarget c (v.get c) s)
    (fun s c h => NoTest.updateTarget h c _) (cornersIn s v .waitUpdate) hnone
  have hdirect := SameRequests.foldl (f := fun s c => Machine.updateTarget c (v.get c) s)
    (fun s c h => NoTest.updateTarget h c _) (cornersIn s v .direct) (hwaits.noTest hnone)
  exact (hwaits.trans hdirect).trans
    (SameRequests.foldl (fun s c h => sameRequests_requestBoost _ (h c)) _ ((hwaits.trans hdirect).noTest hnone))

theorem NoTest.deliver (hnone : NoTest s) (b : Bank) (v : PerCorner Nat) : SameRequests s (deliver b v s) := by
  have hcancelled : SameRequests s (cancelStaggered s) := ⟨rfl, rfl, fun _ => rfl⟩
  unfold Machine.deliver
  dsimp only
  split
  · obtain ⟨hlink, hmgmt, htest⟩ := NoTest.updateTarget (hcancelled.noTest hnone) .fl v.fl
    exact hcancelled.trans ⟨hlink, hmgmt, htest⟩
  · exact hcancelled.trans (NoTest.deliverTogether (hcancelled.noTest hnone) v)

end

/-! ### States that agree in what the Drive Unit reads -/

/-- Related states agree in what the Drive Unit's updates read, and the updates' writes keep them related. -/
structure DriveCongruent (R : State → State → Prop) : Prop where
  sameDrive : ∀ {s t : State}, R s t → SameDrive s t
  setCorner : ∀ {s t : State} (c : Corner) (x : DriveRecord), R s t → R (s.setCorner c x) (t.setCorner c x)
  setSlots : ∀ {s t : State} (l : List Corner), R s t → R (s.setSlots l) (t.setSlots l)
  setWaiting : ∀ {s t : State} (l : List Corner), R s t → R (s.setWaiting l) (t.setWaiting l)
  startSettling : ∀ {s t : State} (c : Corner), R s t → R (startSettling c s) (startSettling c t)
  abortTest : ∀ {s t : State} (c : Corner), R s t → R (abortTest c s) (abortTest c t)

theorem related_foldl {α : Type} {R : State → State → Prop} {f : State → α → State}
    (hf : ∀ {s t : State} (a : α), R s t → R (f s a) (f t a)) (l : List α) {s t : State} (h : R s t) :
    R (l.foldl f s) (l.foldl f t) := by
  induction l generalizing s t with
  | nil => exact h
  | cons a l ih => exact ih (hf a h)

section
variable {R : State → State → Prop} {s t : State} (hR : DriveCongruent R) (h : R s t) (c : Corner) (i : Nat)
include hR h

theorem DriveCongruent.enter (d : DriveState) : R (enter c d i s) (enter c d i t) := by
  unfold Machine.enter
  rw [(hR.sameDrive h).corner, dutyOf_of (hR.sameDrive h).active (hR.sameDrive h).sample]
  exact hR.setCorner _ _ h

theorem DriveCongruent.toHold : R (toHold c i s) (toHold c i t) := hR.startSettling c (hR.enter h c i .hold)

theorem DriveCongruent.toBoost : R (toBoost c i s) (toBoost c i t) := by
  unfold Machine.toBoost
  dsimp only
  rw [(hR.sameDrive h).active, show (Machine.enter c (.boost s.tables.active.boostTimeout) i t).drive.slots =
    (Machine.enter c (.boost s.tables.active.boostTimeout) i s).drive.slots from (hR.sameDrive h).slots]
  exact hR.abortTest c (hR.setSlots _ (hR.enter h c i _))

theorem DriveCongruent.toWait : R (toWait c i s) (toWait c i t) := by
  unfold Machine.toWait
  dsimp only
  rw [(hR.sameDrive h).corner, show (Machine.enter c (.wait (s.corner c).target) i t).drive.waiting =
    (Machine.enter c (.wait (s.corner c).target) i s).drive.waiting from (hR.sameDrive h).waiting]
  exact hR.startSettling c (hR.abortTest c (hR.setWaiting _ (hR.enter h c i _)))

theorem DriveCongruent.retarget : R (retarget c i s) (retarget c i t) := by
  unfold Machine.retarget
  dsimp only
  rw [(hR.sameDrive h).corner]
  split
  · exact hR.enter h c i _
  · exact hR.startSettling c (hR.enter h c i _)

theorem DriveCongruent.slotFree : slotFree t = slotFree s := by
  rw [Machine.slotFree, (hR.sameDrive h).slots, Machine.slotFree]

theorem DriveCongruent.requestBoost : R (requestBoost c i s) (requestBoost c i t) := by
  unfold Machine.requestBoost
  rw [hR.slotFree h]
  split
  · exact hR.toBoost h c i
  · exact hR.toWait h c i

theorem DriveCongruent.grantHead : R (grantHead s) (grantHead t) := by
  unfold Machine.grantHead
  rw [(hR.sameDrive h).waiting, hR.slotFree h]
  split
  · exact h
  · split
    · rw [(hR.sameDrive h).corner]
      exact hR.toBoost (hR.setWaiting _ h) _ _
    · exact h

theorem DriveCongruent.endBoost : R (endBoost c i s) (endBoost c i t) := by
  have hheld := hR.toHold h c i
  unfold Machine.endBoost
  dsimp only
  rw [(hR.sameDrive hheld).slots]
  exact hR.grantHead (hR.setSlots _ hheld)

theorem DriveCongruent.updateTarget : R (updateTarget c i s) (updateTarget c i t) := by
  unfold Machine.updateTarget stepsUp
  rw [(hR.sameDrive h).active, (hR.sameDrive h).corner, (hR.sameDrive h).waiting]
  dsimp only
  split
  case h_1 | h_2 => exact h
  case h_3 =>
    split
    · exact hR.requestBoost h _ _
    · exact hR.retarget h _ _
  case h_4 =>
    split
    · exact hR.retarget h _ _
    · exact hR.toHold (hR.setWaiting _ h) _ _
  case h_5 =>
    split
    · exact hR.enter h _ _ _
    · exact hR.endBoost h _ _

omit c i in
theorem DriveCongruent.deliverTogether (v : PerCorner Nat) : R (deliverTogether v s) (deliverTogether v t) := by
  have hclass (x : UpdateClass) : cornersIn t v x = cornersIn s v x := by
    unfold cornersIn classify stepsUp
    simp only [(hR.sameDrive h).active, (hR.sameDrive h).corner]
  have hstep : updateStep t v = updateStep s v := by
    funext c
    rw [updateStep, (hR.sameDrive h).active, (hR.sameDrive h).corner, updateStep]
  unfold Machine.deliverTogether
  simp only [hclass, hstep, (hR.sameDrive h).active]
  have hupdate (l : List Corner) {s t : State} (h : R s t) :
      R (l.foldl (fun s c => Machine.updateTarget c (v.get c) s) s)
        (l.foldl (fun s c => Machine.updateTarget c (v.get c) s) t) :=
    related_foldl (R := R) (f := fun s c => Machine.updateTarget c (v.get c) s) (fun c g => hR.updateTarget g c _) l h
  exact related_foldl (R := R) (f := fun u c => Machine.requestBoost c (s.tables.active.clampCurrent c (v.get c)) u)
    (fun c g => hR.requestBoost g c _) _ (hupdate _ (hupdate _ h))

end

theorem sameDrive_abortTest (c : Corner) (s : State) : SameDrive s (abortTest c s) where

theorem SameDrive.symm {s t : State} (h : SameDrive s t) : SameDrive t s where
  corners := h.corners.symm
  slots := h.slots.symm
  waiting := h.waiting.symm
  active := h.active.symm
  activeValid := h.activeValid.symm
  sample := h.sample.symm
  gate := h.gate.symm

/-- What the updates make of the drive does not depend on the monitor items. -/
theorem driveCongruent_sameDrive : DriveCongruent SameDrive where
  sameDrive h := h
  setCorner c x h := { h with corners := congrArg (fun v => PerCorner.set v c x) h.corners }
  setSlots _ h := { h with slots := rfl }
  setWaiting _ h := { h with waiting := rfl }
  startSettling _ h := { h with }
  abortTest c h := (sameDrive_abortTest c _).symm.trans (h.trans (sameDrive_abortTest c _))

/-- The two states agree in the drive records and lists, the monitor items, ACTIVE and the supply sample. -/
structure SameCorners (s t : State) : Prop extends SameDrive s t where
  monitor : t.monitor = s.monitor := by simp

section
variable {s t u : State}

theorem SameCorners.trans (h : SameCorners s t) (g : SameCorners t u) : SameCorners s u where
  toSameDrive := h.toSameDrive.trans g.toSameDrive
  monitor := g.monitor.trans h.monitor

theorem SameCorners.symm (h : SameCorners s t) : SameCorners t s where
  toSameDrive := h.toSameDrive.symm
  monitor := h.monitor.symm

theorem SameCorners.monitorOf (h : SameCorners s t) (d : Corner) : t.monitorOf d = s.monitorOf d :=
  monitorOf_of_monitor h.monitor d

theorem SameCorners.setCorner (h : SameCorners s t) (c : Corner) (x : DriveRecord) :
    SameCorners (s.setCorner c x) (t.setCorner c x) where
  toSameDrive := { h.toSameDrive with corners := congrArg (fun v => PerCorner.set v c x) h.corners }
  monitor := h.monitor

theorem SameCorners.setMonitor (h : SameCorners s t) (c : Corner) (m : MonitorRecord) :
    SameCorners (s.setMonitor c m) (t.setMonitor c m) where
  toSameDrive := { h.toSameDrive with }
  monitor := congrArg (fun v => PerCorner.set v c m) h.monitor

theorem SameCorners.setSlots (h : SameCorners s t) (l : List Corner) : SameCorners (s.setSlots l) (t.setSlots l) where
  toSameDrive := { h.toSameDrive with slots := rfl }
  monitor := h.monitor

theorem SameCorners.setWaiting (h : SameCorners s t) (l : List Corner) :
    SameCorners (s.setWaiting l) (t.setWaiting l) where
  toSameDrive := { h.toSameDrive with waiting := rfl }
  monitor := h.monitor

theorem SameCorners.startSettling (h : SameCorners s t) (c : Corner) :
    SameCorners (startSettling c s) (startSettling c t) := by
  unfold Machine.startSettling
  rw [h.monitorOf, h.active]
  exact h.setMonitor _ _

theorem SameCorners.abortTest (h : SameCorners s t) (c : Corner) : SameCorners (abortTest c s) (abortTest c t) := by
  have hended (s : State) (x : Result) (ws : List Word) : SameCorners s (endExecuting x ws s) := { }
  unfold Machine.abortTest
  rw [h.monitorOf]
  split
  · exact h
  · exact (hended _ _ _).symm.trans ((h.setMonitor _ _).trans (hended _ _ _))

theorem driveCongruent_sameCorners : DriveCongruent SameCorners where
  sameDrive h := h.toSameDrive
  setCorner c x h := h.setCorner c x
  setSlots l h := h.setSlots l
  setWaiting l h := h.setWaiting l
  startSettling c h := h.startSettling c
  abortTest c h := h.abortTest c

end

/-- What a completion writes first concerns the Drive Unit not at all, nor do the staggered updates it cancels. -/
theorem sameCorners_beforeDelivery (y : Cycle) (s : State) : SameCorners s (cancelStaggered (writeResults y s)) where

theorem stageDelivery_of_delivering {y : Cycle} (h : y.hold = false) (s : State) :
    stageDelivery y s = makeReport y (deliver y.bank (targetsOf s.engine) s) := by
  simp [stageDelivery, h]

theorem sameCorners_setStaggered (v : PerCorner (Option Staggered)) (s : State) : SameCorners s (s.setStaggered v) where

/-- The delivery of a completion is that of the state before it, with the targets just computed. -/
theorem stageDelivery_staggered {y : Cycle} (hdelivers : y.hold = false) (horder : y.bank.isStaggered = true) (s : State) :
    SameCorners (updateTarget .fl ((finishCycle y s.engine).results.get .fl).target s) (stageDelivery y (writeResults y s)) ∧
      (stageDelivery y (writeResults y s)).drive.staggered =
        { fl := none
          fr := some { target := ((finishCycle y s.engine).results.get .fr).target, offset := y.bank.tUs / 4 }
          rl := some { target := ((finishCycle y s.engine).results.get .rl).target, offset := y.bank.tUs / 2 }
          rr := some { target := ((finishCycle y s.engine).results.get .rr).target, offset := 3 * y.bank.tUs / 4 } } := by
  have hreport (t : State) : SameCorners t (makeReport y t) := { }
  have hcancelled := driveCongruent_sameCorners.updateTarget (sameCorners_beforeDelivery y s) .fl ((finishCycle y s.engine).results.get .fl).target
  rw [stageDelivery_of_delivering hdelivers, deliver, horder, if_pos rfl, writeResults_engine]
  generalize finishCycle y s.engine = e at hcancelled
  refine ⟨(hcancelled.trans (sameCorners_setStaggered _ _)).trans (hreport _), ?_⟩
  simp only [makeReport_frame]
  rfl

theorem stageDelivery_together {y : Cycle} (hdelivers : y.hold = false) (horder : y.bank.isStaggered = false) (s : State) :
    SameCorners (deliverTogether (PerCorner.ofFn fun c => ((finishCycle y s.engine).results.get c).target) s)
        (stageDelivery y (writeResults y s)) ∧
      (stageDelivery y (writeResults y s)).drive.staggered = PerCorner.all none := by
  have hreport (t : State) : SameCorners t (makeReport y t) := { }
  have hcancelled := driveCongruent_sameCorners.deliverTogether (sameCorners_beforeDelivery y s)
    (PerCorner.ofFn fun c => ((finishCycle y s.engine).results.get c).target)
  rw [stageDelivery_of_delivering hdelivers, deliver, horder, if_neg Bool.false_ne_true, writeResults_engine]
  generalize finishCycle y s.engine = e at hcancelled
  refine ⟨hcancelled.trans (hreport _), ?_⟩
  simp only [makeReport_frame, deliverTogether_frame]
  rfl

/-- Settles O29: the two orders of a delivery, and the timer's event is the target update itself. -/
theorem deliveryFollowsTheUpdateOrder : Obligations.DeliveryFollowsTheUpdateOrder := by
  refine ⟨fun s y hy hdelivers => ?_, fun c s u hrun hu => by simp [exec, execStaggeredUpdate, hrun, hu]⟩
  refine ⟨_, exec_computationCompletion hy, fun horder => ?_, fun horder => ?_⟩
  · obtain ⟨hsame, hstaggered⟩ := stageDelivery_staggered hdelivers horder s
    rw [stageDelivery_engine, writeResults_engine]
    exact ⟨hstaggered, hsame.slots, hsame.waiting, fun c => ⟨hsame.corner c, hsame.monitorOf c⟩⟩
  · obtain ⟨hsame, hstaggered⟩ := stageDelivery_together hdelivers horder s
    rw [stageDelivery_engine, writeResults_engine]
    refine ⟨fun c => ?_, hsame.slots, hsame.waiting, fun c => ⟨hsame.corner c, hsame.monitorOf c⟩⟩
    rw [hstaggered]
    cases c <;> rfl

/-! ### Reports (R20, R189, R190) -/

/-- The REPORT's first word, the bits written as R193 lays them out. -/
theorem reportFrame_eq (y : Cycle) {s t : State} (hgate : t.gate = s.gate) (htiming : t.timing = s.timing)
    (hnode : t.link.nodeAddress = s.link.nodeAddress) (hprogramme : t.engine.programme = s.engine.programme) :
    reportFrame y t = reportOf s t y t.mgmt.flags := by
  unfold reportFrame reportWords reportOf driveStatesCode
  rw [hgate, htiming, hnode, hprogramme]
  cases s.gate.isOpen <;> cases y.hold <;> rfl

theorem reportOf_of_corners {s t u : State} (y : Cycle) (w : Word) (hcorner : ∀ c, u.corner c = t.corner c)
    (hengine : u.engine = t.engine) : reportOf s u y w = reportOf s t y w := by
  unfold reportOf
  simp only [hcorner, hengine]

/-- What follows the delivery in a completion: with the cycle not reported nothing, and else one REPORT offered. -/
theorem makeReport_link {y : Cycle} {s t : State} (hlink : t.link = s.link) (hgate : t.gate = s.gate)
    (htiming : t.timing = s.timing) (hprogramme : t.engine.programme = s.engine.programme) :
    (y.number.toNat % (y.bank.reportDivider + 1) ≠ 0 → (makeReport y t).link = s.link) ∧
      (y.number.toNat % (y.bank.reportDivider + 1) = 0 →
        (makeReport y t).link =
          (offerFrame 2 s.timing.reportPort (reportOf s (makeReport y t) y t.mgmt.flags) s).link) := by
  have hreported : isReported y = decide (y.number.toNat % (y.bank.reportDivider + 1) = 0) := rfl
  refine ⟨fun hskip => ?_, fun hdue => ?_⟩
  · rw [makeReport, hreported, decide_eq_false hskip, if_neg Bool.false_ne_true, hlink]
  · have hframe : reportFrame y t = reportOf s (makeReport y t) y t.mgmt.flags := by
      rw [reportFrame_eq y hgate htiming (by rw [hlink]) hprogramme]
      exact (reportOf_of_corners y _ (fun c => by simp [State.corner]) (by simp)).symm
    rw [← hframe, makeReport, hreported, decide_eq_true hdue, if_pos rfl, htiming]
    exact offerFrame_link_of _ _ _ hlink

theorem delivered_frame {y : Cycle} {s : State} (u : State) (h : u = writeResults y s ∨
    u = deliver y.bank (targetsOf (writeResults y s).engine) (writeResults y s)) :
    u.gate = s.gate ∧ u.timing = s.timing ∧ u.engine = finishCycle y s.engine := by
  rcases h with rfl | rfl <;> simp

/-- A completion's last state but one: the cycle delivered, or a hold cycle's results written. -/
theorem stageDelivery_eq (y : Cycle) (s : State) :
    ∃ u, stageDelivery y s = makeReport y u ∧ (y.hold = true ∧ u = s ∨
      y.hold = false ∧ u = deliver y.bank (targetsOf s.engine) s) := by
  unfold stageDelivery
  cases y.hold with
  | true => exact ⟨s, rfl, .inl ⟨rfl, rfl⟩⟩
  | false => exact ⟨deliver y.bank (targetsOf s.engine) s, rfl, .inr ⟨rfl, rfl⟩⟩

/-- The flag word that a REPORT carries: all as they stand after it, but for INSERT_LOST, which its own offer may set. -/
theorem reportFlags {y : Cycle} {s u : State} (hlost : Flag.insertLost.isSet u.mgmt.flags = Flag.insertLost.isSet s.mgmt.flags)
    (f : Flag) :
    f.isSet u.mgmt.flags =
      if f = .insertLost then f.isSet s.mgmt.flags else f.isSet (makeReport y u).mgmt.flags := by
  split
  · next hf => rw [hf, hlost]
  · next hf => exact (flagsKept_makeReport y u f (by simpa using hf)).symm

/-- Settles O24: a delivery in which no test runs offers nothing before the REPORT, and the REPORT sets INSERT_LOST at
most. -/
theorem reportsFollowTheDivider : Obligations.ReportsFollowTheDivider := by
  intro s y hy hquiet
  obtain ⟨u, heq, hu⟩ := stageDelivery_eq y (writeResults y s)
  refine ⟨_, exec_computationCompletion hy, ?_⟩
  rw [heq]
  obtain ⟨hgate, htiming, hengine⟩ := delivered_frame (y := y) (s := s) u (hu.imp (·.2) (·.2))
  have hrequests : u.link = s.link ∧ u.mgmt = (writeResults y s).mgmt := by
    obtain ⟨-, rfl⟩ | ⟨hdelivers, rfl⟩ := hu
    · exact ⟨by simp, rfl⟩
    · have hnone : NoTest (writeResults y s) := (hquiet.resolve_left (by simp [hdelivers])).of_monitor (by simp)
      obtain ⟨hlink, hmgmt, -⟩ := hnone.deliver y.bank (targetsOf (writeResults y s).engine)
      exact ⟨hlink.trans (by simp), hmgmt⟩
  obtain ⟨hlink, hmgmt⟩ := hrequests
  have hprogramme : u.engine.programme = s.engine.programme := by rw [hengine, (finishCycle_control y s.engine).1]
  obtain ⟨hskip, hdue⟩ := makeReport_link hlink hgate htiming hprogramme
  refine ⟨hskip, fun hreported => ⟨u.mgmt.flags, fun f => reportFlags ?_ f, hdue hreported⟩⟩
  rw [hmgmt]
  exact flagsKept_writeResults y s .insertLost (by decide)

end Sys2Proof.Machine

/-! Target updates and boosts (R111 to R120): each operation's effect on its corner and on the two lists, where no monitor
test runs. -/

namespace Sys2Proof.Machine

section
variable {s t u : State} {c : Corner} {i : Nat}

theorem onlyCorners_of {f : State → State}
    (hcorner : ∀ d, d ≠ c → (f s).corner d = s.corner d ∧ (f s).monitorOf d = s.monitorOf d) : OnlyCorners s (f s) [c] :=
  fun d hd => hcorner d (by simpa using hd)

/-- Nothing outside the drive has changed, the flags included. -/
theorem SameRequests.onlyDrive (h : SameRequests s t) (hpending : t.pending = s.pending := by simp)
    (hreset : t.resetInProgress = s.resetInProgress := by simp) (hcapture : t.capture = s.capture := by simp)
    (htiming : t.timing = s.timing := by simp) (hengine : t.engine = s.engine := by simp)
    (htables : t.tables = s.tables := by simp) (hsupply : t.supply = s.supply := by simp)
    (hgate : t.gate = s.gate := by simp) : OnlyDriveAndFlags s t ∧ t.mgmt.flags = s.mgmt.flags := by
  refine ⟨⟨hpending, hreset, h.link, hcapture, htiming, hengine, htables, hsupply, hgate, ?_⟩, by rw [h.mgmt]⟩
  rw [h.mgmt]

/-! ### One corner's changes of state -/

theorem toHold_at (hnone : (s.monitorOf c).test = none) :
    (toHold c i s).corner c = { s.corner c with state := .hold, target := i, duty := feedForward s c i } ∧
      (toHold c i s).monitorOf c = settling s ∧ OnlyCorners s (toHold c i s) [c] := by
  refine ⟨by rw [corner_toHold, if_pos rfl], ?_, onlyCorners_of fun d hd => ⟨?_, ?_⟩⟩
  · rw [monitorOf_toHold, if_pos rfl]
    simp [settling, hnone]
  · rw [corner_toHold, if_neg hd]
  · rw [monitorOf_toHold, if_neg hd]

theorem toBoost_at (hnone : (s.monitorOf c).test = none) :
    (toBoost c i s).corner c =
        { s.corner c with state := .boost s.tables.active.boostTimeout, target := i, duty := 980 } ∧
      (toBoost c i s).monitorOf c = s.monitorOf c ∧ OnlyCorners s (toBoost c i s) [c] := by
  refine ⟨by rw [corner_toBoost, if_pos rfl], ?_, onlyCorners_of fun d hd => ⟨?_, ?_⟩⟩
  · rw [monitorOf_toBoost, if_neg (by simp [hnone])]
  · rw [corner_toBoost, if_neg hd]
  · rw [monitorOf_toBoost, if_neg (by simp [hd])]

theorem toWait_at :
    (toWait c i s).corner c =
        { s.corner c with state := .wait (s.corner c).target, target := i, duty := feedForward s c i } ∧
      (toWait c i s).monitorOf c = settling s ∧ OnlyCorners s (toWait c i s) [c] := by
  refine ⟨by rw [corner_toWait, if_pos rfl], ?_, onlyCorners_of fun d hd => ⟨?_, ?_⟩⟩
  · rw [monitorOf_toWait, if_pos rfl, settling]
  · rw [corner_toWait, if_neg hd]
  · rw [monitorOf_toWait, if_neg hd]

theorem isHeld_duty {d : DriveState} (h : d.isHeld = true) (s : State) (c : Corner) (i : Nat) :
    dutyOf s c d i = feedForward s c i ∧ d.isOff = false := by
  cases d with
  | hold | wait => exact ⟨rfl, rfl⟩
  | off | boost | fault => cases h

theorem retarget_at (hheld : (s.corner c).state.isHeld = true) (hnone : (s.monitorOf c).test = none) :
    (retarget c i s).corner c = { s.corner c with target := i, duty := feedForward s c i } ∧
      (retarget c i s).monitorOf c = (if i = (s.corner c).target then s.monitorOf c else settling s) ∧
      OnlyCorners s (retarget c i s) [c] := by
  obtain ⟨hduty, hoff⟩ := isHeld_duty hheld s c i
  refine ⟨?_, ?_, onlyCorners_of fun d hd => ⟨?_, ?_⟩⟩
  · rw [corner_retarget, if_pos rfl, hduty, hoff, if_neg Bool.false_ne_true]
  · rw [monitorOf_retarget]
    by_cases h : i = (s.corner c).target <;> simp [h, settling, hnone]
  · rw [corner_retarget, if_neg hd]
  · rw [monitorOf_retarget, if_neg (by simp [hd])]

theorem enter_boost_at {timeout : Nat} (hboost : (s.corner c).state = .boost timeout) :
    (enter c (.boost timeout) i s).corner c = { s.corner c with target := i, duty := 980 } ∧
      OnlyCorners s (enter c (.boost timeout) i s) [c] := by
  refine ⟨?_, onlyCorners_of fun d hd => ⟨?_, rfl⟩⟩
  · rw [corner_enter, if_pos rfl]
    simp [hboost, dutyOf, DriveState.isOff, Config.dutyMax]
  · rw [corner_enter, if_neg hd]

/-! ### The slot passed on (R117) -/

/-- A boost that ends frees its slot for the head of the pending list. -/
theorem endBoost_of_lists (hmem : c ∈ s.drive.slots) (hle : s.drive.slots.length ≤ 2) (hnot : c ∉ s.drive.waiting)
    (hnone : NoTest s) :
    (endBoost c i s).corner c = { s.corner c with state := .hold, target := i, duty := feedForward s c i } ∧
      (endBoost c i s).monitorOf c = settling s ∧ SlotPassedOn s (endBoost c i s) c := by
  have hfree : (s.drive.slots.erase c).length < 2 := by
    have hpos := List.length_pos_of_mem hmem
    rw [List.length_erase_of_mem hmem]
    omega
  obtain ⟨hcorner, hmonitor, hothers⟩ := toHold_at (s := s) (i := i) (hnone c)
  have hheld := sameRequests_toHold c i s
  have heq : endBoost c i s = grantHead ((toHold c i s).setSlots (s.drive.slots.erase c)) := by simp [endBoost]
  rw [heq]
  cases hwaiting : s.drive.waiting with
  | nil =>
    rw [grantHead_of_none (by simpa using hwaiting), SlotPassedOn, hwaiting]
    exact ⟨hcorner, hmonitor, rfl, by simpa using hwaiting, hothers⟩
  | cons d rest =>
    have hdc : d ≠ c := fun hdc => hnot (by simp [hwaiting, hdc])
    obtain ⟨hd, hdm⟩ := hothers d (by simpa using hdc)
    obtain ⟨hboosted, hkept, hrest⟩ := toBoost_at (c := d) (i := (s.corner d).target)
      (s := ((toHold c i s).setSlots (s.drive.slots.erase c)).setWaiting rest) ((hheld.test d).trans (hnone d))
    have hread (x : Corner) :
        (((toHold c i s).setSlots (s.drive.slots.erase c)).setWaiting rest).corner x = (toHold c i s).corner x ∧
          (((toHold c i s).setSlots (s.drive.slots.erase c)).setWaiting rest).monitorOf x = (toHold c i s).monitorOf x :=
      ⟨rfl, rfl⟩
    rw [grantHead_eq (d := d) (rest := rest) (by simpa using hwaiting) hfree, corner_setSlots, hd, SlotPassedOn, hwaiting]
    rw [(hread d).1, hd] at hboosted
    obtain ⟨hc, hcm⟩ := hrest c (by simpa using hdc.symm)
    refine ⟨hc.trans hcorner, hcm.trans hmonitor, by simp, by simp, by simpa using hboosted, hkept.trans hdm, fun x hx => ?_⟩
    simp only [List.mem_cons, List.not_mem_nil, or_false, not_or] at hx
    obtain ⟨hx1, hx2⟩ := hrest x (by simpa using hx.2)
    obtain ⟨hx3, hx4⟩ := hothers x (by simpa using hx.1)
    exact ⟨hx1.trans hx3, hx2.trans hx4⟩

/-- The lists lawful, a corner in BOOST holds a slot and is not on the pending list. -/
theorem endBoost_at {timeout : Nat} (h : ArbiterLaws s) (hnone : NoTest s) (hboost : (s.corner c).state = .boost timeout) :
    (endBoost c i s).corner c = { s.corner c with state := .hold, target := i, duty := feedForward s c i } ∧
      (endBoost c i s).monitorOf c = settling s ∧ SlotPassedOn s (endBoost c i s) c := by
  obtain ⟨hlists, -⟩ := (arbiterLaws_iff s).mp h
  exact endBoost_of_lists ((hlists.mem_slots c).mpr ⟨timeout, hboost⟩) hlists.slots_le
    (hlists.not_mem_waiting (by simp [State.states, hboost])) hnone

/-! ### The cases of a target update (R111 to R114) -/

section
variable (x : Nat)

theorem updateTarget_of_off (h : (s.corner c).state = .off ∨ (s.corner c).state = .fault) : updateTarget c x s = s := by
  rcases h with h | h <;> simp [updateTarget, h]

theorem updateTarget_of_hold (h : (s.corner c).state = .hold) :
    updateTarget c x s =
      if (s.tables.active.boostStep : Int) ≤ (s.tables.active.clampCurrent c x : Int) - (s.corner c).target then
        requestBoost c (s.tables.active.clampCurrent c x) s
      else retarget c (s.tables.active.clampCurrent c x) s := by
  simp [updateTarget, h, stepsUp]

theorem updateTarget_of_wait {base : Nat} (h : (s.corner c).state = .wait base) :
    updateTarget c x s =
      if (s.tables.active.boostStep : Int) ≤ (s.tables.active.clampCurrent c x : Int) - base then
        retarget c (s.tables.active.clampCurrent c x) s
      else toHold c (s.tables.active.clampCurrent c x) (s.setWaiting (s.drive.waiting.erase c)) := by
  simp [updateTarget, h, stepsUp]

theorem updateTarget_of_boost {timeout : Nat} (h : (s.corner c).state = .boost timeout) :
    updateTarget c x s =
      if (s.corner c).target ≤ s.tables.active.clampCurrent c x then
        enter c (.boost timeout) (s.tables.active.clampCurrent c x) s
      else endBoost c (s.tables.active.clampCurrent c x) s := by
  simp [updateTarget, h]

end

theorem requestBoost_of_free (h : s.drive.slots.length < 2) : requestBoost c i s = toBoost c i s :=
  if_pos ((slotFree_iff s).mpr h)

theorem requestBoost_of_full (h : 2 ≤ s.drive.slots.length) : requestBoost c i s = toWait c i s :=
  if_neg fun hfree => Nat.not_lt.mpr h ((slotFree_iff s).mp hfree)

/-! ### A target update's effect, by the state of its corner -/

section
variable (x : Nat)

/-- Out of BOOST an update touches its own corner alone. -/
theorem onlyCorners_updateTarget (hnone : NoTest s) (hnot : ∀ timeout, (s.corner c).state ≠ .boost timeout) :
    OnlyCorners s (updateTarget c x s) [c] := by
  cases hstate : (s.corner c).state with
  | off | fault =>
    rw [updateTarget_of_off x (by simp [hstate])]
    exact fun _ _ => ⟨rfl, rfl⟩
  | boost timeout => exact absurd hstate (hnot timeout)
  | hold =>
    rw [updateTarget_of_hold x hstate]
    split
    · unfold requestBoost
      split
      · exact (toBoost_at (hnone c)).2.2
      · exact toWait_at.2.2
    · exact (retarget_at (by rw [hstate]; rfl) (hnone c)).2.2
  | wait base =>
    rw [updateTarget_of_wait x hstate]
    split
    · exact (retarget_at (by rw [hstate]; rfl) (hnone c)).2.2
    · exact (toHold_at (s := s.setWaiting (s.drive.waiting.erase c)) (hnone c)).2.2

/-- In HOLD a step below the boost step only changes the target (R112). -/
theorem updateTarget_low_at_hold (hnone : NoTest s) (hhold : (s.corner c).state = .hold)
    (hi : s.tables.active.clampCurrent c x = i) (hstep : (i : Int) - (s.corner c).target < s.tables.active.boostStep) :
    (updateTarget c x s).corner c = { s.corner c with target := i, duty := feedForward s c i } ∧
      (updateTarget c x s).monitorOf c = (if i = (s.corner c).target then s.monitorOf c else settling s) ∧
      (updateTarget c x s).drive.slots = s.drive.slots ∧
      (updateTarget c x s).drive.waiting = s.drive.waiting := by
  rw [updateTarget_of_hold x hhold, hi, if_neg (Int.not_le.mpr hstep)]
  obtain ⟨hcorner, hmonitor, -⟩ := retarget_at (i := i) (by rw [hhold]; rfl) (hnone c)
  exact ⟨hcorner, hmonitor, by simp, by simp⟩

/-- In HOLD a larger step takes a free slot (R116). -/
theorem updateTarget_boosts_at_hold (hnone : NoTest s) (hhold : (s.corner c).state = .hold)
    (hi : s.tables.active.clampCurrent c x = i) (hstep : (s.tables.active.boostStep : Int) ≤ (i : Int) - (s.corner c).target)
    (hfree : s.drive.slots.length < 2) :
    (updateTarget c x s).corner c =
        { s.corner c with state := .boost s.tables.active.boostTimeout, target := i, duty := 980 } ∧
      (updateTarget c x s).monitorOf c = s.monitorOf c ∧
      (updateTarget c x s).drive.slots = s.drive.slots ++ [c] ∧
      (updateTarget c x s).drive.waiting = s.drive.waiting := by
  rw [updateTarget_of_hold x hhold, hi, if_pos hstep, requestBoost_of_free hfree]
  obtain ⟨hcorner, hmonitor, -⟩ := toBoost_at (i := i) (hnone c)
  exact ⟨hcorner, hmonitor, by simp, by simp⟩

/-- In HOLD a larger step with both slots held joins the pending list (R116). -/
theorem updateTarget_waits_at_hold (hhold : (s.corner c).state = .hold) (hi : s.tables.active.clampCurrent c x = i)
    (hstep : (s.tables.active.boostStep : Int) ≤ (i : Int) - (s.corner c).target) (hfull : 2 ≤ s.drive.slots.length) :
    (updateTarget c x s).corner c =
        { s.corner c with state := .wait (s.corner c).target, target := i, duty := feedForward s c i } ∧
      (updateTarget c x s).monitorOf c = settling s ∧
      (updateTarget c x s).drive.slots = s.drive.slots ∧
      (updateTarget c x s).drive.waiting = s.drive.waiting ++ [c] := by
  rw [updateTarget_of_hold x hhold, hi, if_pos hstep, requestBoost_of_full hfull]
  obtain ⟨hcorner, hmonitor, -⟩ := toWait_at (s := s) (c := c) (i := i)
  exact ⟨hcorner, hmonitor, by simp, by simp⟩

/-- In WAIT the request stands (R113). -/
theorem updateTarget_stands_at_wait {base : Nat} (hnone : NoTest s) (hwait : (s.corner c).state = .wait base)
    (hi : s.tables.active.clampCurrent c x = i) (hstep : (s.tables.active.boostStep : Int) ≤ (i : Int) - base) :
    (updateTarget c x s).corner c = { s.corner c with target := i, duty := feedForward s c i } ∧
      (updateTarget c x s).monitorOf c = (if i = (s.corner c).target then s.monitorOf c else settling s) ∧
      (updateTarget c x s).drive.slots = s.drive.slots ∧
      (updateTarget c x s).drive.waiting = s.drive.waiting := by
  rw [updateTarget_of_wait x hwait, hi, if_pos hstep]
  obtain ⟨hcorner, hmonitor, -⟩ := retarget_at (i := i) (by rw [hwait]; rfl) (hnone c)
  exact ⟨hcorner, hmonitor, by simp, by simp⟩

/-- In WAIT the request is withdrawn (R113). -/
theorem updateTarget_withdraws_at_wait {base : Nat} (hnone : NoTest s) (hwait : (s.corner c).state = .wait base)
    (hi : s.tables.active.clampCurrent c x = i) (hstep : (i : Int) - base < s.tables.active.boostStep) :
    (updateTarget c x s).corner c = { s.corner c with state := .hold, target := i, duty := feedForward s c i } ∧
      (updateTarget c x s).monitorOf c = settling s ∧
      (updateTarget c x s).drive.slots = s.drive.slots ∧
      (updateTarget c x s).drive.waiting = s.drive.waiting.erase c := by
  rw [updateTarget_of_wait x hwait, hi, if_neg (Int.not_le.mpr hstep)]
  obtain ⟨hcorner, hmonitor, -⟩ :=
    toHold_at (s := s.setWaiting (s.drive.waiting.erase c)) (i := i) (hnone c)
  exact ⟨hcorner, hmonitor, by simp, by simp⟩

/-- In BOOST a target not lowered is taken into the boost (R114). -/
theorem updateTarget_goesOn_at_boost {timeout : Nat} (hboost : (s.corner c).state = .boost timeout)
    (hi : s.tables.active.clampCurrent c x = i) (hraised : (s.corner c).target ≤ i) :
    (updateTarget c x s).corner c = { s.corner c with target := i, duty := 980 } ∧
      (updateTarget c x s).monitorOf c = s.monitorOf c ∧ OnlyCorners s (updateTarget c x s) [c] ∧
      (updateTarget c x s).drive.slots = s.drive.slots ∧ (updateTarget c x s).drive.waiting = s.drive.waiting := by
  rw [updateTarget_of_boost x hboost, hi, if_pos hraised]
  obtain ⟨hcorner, hothers⟩ := enter_boost_at (i := i) hboost
  exact ⟨hcorner, rfl, hothers, rfl, rfl⟩

/-- In BOOST a lowered target ends the boost (R114). -/
theorem updateTarget_ends_at_boost {timeout : Nat} (h : ArbiterLaws s) (hnone : NoTest s)
    (hboost : (s.corner c).state = .boost timeout) (hi : s.tables.active.clampCurrent c x = i)
    (hlowered : i < (s.corner c).target) :
    (updateTarget c x s).corner c = { s.corner c with state := .hold, target := i, duty := feedForward s c i } ∧
      (updateTarget c x s).monitorOf c = settling s ∧ SlotPassedOn s (updateTarget c x s) c := by
  rw [updateTarget_of_boost x hboost, hi, if_neg (Nat.not_le.mpr hlowered)]
  exact endBoost_at h hnone hboost

end

end

theorem exec_staggeredUpdate {s : State} {c : Corner} {u : Staggered} (hrun : s.resetInProgress = false)
    (hu : s.drive.staggered.get c = some u) :
    exec (.staggeredUpdate c) s =
      .next (updateTarget c u.target (s.setStaggered (s.drive.staggered.set c none))) := by
  simp [exec, execStaggeredUpdate, hrun, hu]

/-- A staggered update outside OFF and FAULT, no test running, acts on the drive alone, and is gone. -/
theorem staggeredUpdate_keeps {s : State} (hnone : NoTest s) (c : Corner) (x : Nat) :
    OnlyDriveAndFlags s (updateTarget c x (s.setStaggered (s.drive.staggered.set c none))) ∧
      (updateTarget c x (s.setStaggered (s.drive.staggered.set c none))).mgmt.flags = s.mgmt.flags ∧
      (updateTarget c x (s.setStaggered (s.drive.staggered.set c none))).drive.staggered =
        s.drive.staggered.set c none := by
  have hquiet : NoTest (s.setStaggered (s.drive.staggered.set c none)) := hnone
  obtain ⟨honly, hflags⟩ := (hquiet.updateTarget c x).onlyDrive
  exact ⟨honly, hflags, by simp⟩

/-- Settles O25: the update's cases of R111 to R114 at the corner that the timer names, the staggered update gone. -/
theorem staggeredUpdatesReachTheirCorners : Obligations.StaggeredUpdatesReachTheirCorners := by
  constructor
  · intro c s hrun hnone
    refine ⟨fun hidle => by simp [exec, execStaggeredUpdate, hrun, hidle], fun u hu => ?_⟩
    rw [exec_staggeredUpdate hrun hu]
    obtain ⟨honly, hflags, hstaggered⟩ := staggeredUpdate_keeps hnone c u.target
    have hquiet : NoTest (s.setStaggered (s.drive.staggered.set c none)) := hnone
    refine ⟨fun hoff => ?_, fun hhold => ?_⟩
    · exact congrArg _ (updateTarget_of_off (s := s.setStaggered (s.drive.staggered.set c none)) u.target hoff)
    · have hothers := onlyCorners_updateTarget (c := c) u.target hquiet (fun timeout hboost => by
        cases hhold.symm.trans hboost)
      exact ⟨_, rfl, honly, hflags, hothers, hstaggered,
        fun hstep => updateTarget_low_at_hold u.target hquiet hhold rfl hstep,
        fun hstep hfree => updateTarget_boosts_at_hold u.target hquiet hhold rfl hstep hfree,
        fun hstep hfull => updateTarget_waits_at_hold u.target hhold rfl hstep hfull⟩
  · intro c s u hrun hnone hlaw hu
    rw [exec_staggeredUpdate hrun hu]
    obtain ⟨honly, hflags, hstaggered⟩ := staggeredUpdate_keeps hnone c u.target
    have hquiet : NoTest (s.setStaggered (s.drive.staggered.set c none)) := hnone
    have hlists : ArbiterLaws (s.setStaggered (s.drive.staggered.set c none)) := hlaw.lists
    refine ⟨fun base hwait => ?_, fun timeout hboost => ?_⟩
    · have hothers := onlyCorners_updateTarget (c := c) u.target hquiet (fun timeout hboost => by
        cases hwait.symm.trans hboost)
      have hslots : (updateTarget c u.target (s.setStaggered (s.drive.staggered.set c none))).drive.slots =
          s.drive.slots := by
        rcases lt_or_ge ((s.tables.active.clampCurrent c u.target : Int) - base) s.tables.active.boostStep with hlow | hhigh
        · exact (updateTarget_withdraws_at_wait u.target hquiet hwait rfl hlow).2.2.1
        · exact (updateTarget_stands_at_wait u.target hquiet hwait rfl hhigh).2.2.1
      refine ⟨_, rfl, honly, hflags, hothers, hslots, hstaggered, fun hstep => ?_, fun hstep => ?_⟩
      · obtain ⟨hcorner, hmonitor, -, hwaiting⟩ := updateTarget_stands_at_wait u.target hquiet hwait rfl hstep
        exact ⟨hcorner, hmonitor, hwaiting⟩
      · obtain ⟨hcorner, hmonitor, -, hwaiting⟩ := updateTarget_withdraws_at_wait u.target hquiet hwait rfl hstep
        exact ⟨hcorner, hmonitor, hwaiting⟩
    · have hduty : (s.corner c).duty = 980 := by
        obtain ⟨-, -, hformed⟩ := hlaw
        rw [(hformed c).1, hboost]
        rfl
      refine ⟨_, rfl, honly, hflags, hstaggered, fun hraised => ?_, fun hlowered => ?_⟩
      · obtain ⟨hcorner, heffect⟩ := updateTarget_goesOn_at_boost
          (s := s.setStaggered (s.drive.staggered.set c none)) u.target hboost rfl hraised
        refine ⟨hcorner.trans ?_, heffect⟩
        rw [← hduty]
        rfl
      · exact updateTarget_ends_at_boost u.target hlists hquiet hboost rfl hlowered

end Sys2Proof.Machine

/-! Measurements (R108, R119, R131 to R133, R137): the measured corner's record, its monitor items and its outputs. -/

namespace Sys2Proof.Machine

/-! ### The period that runs, and its end (R108) -/

theorem startPeriods_eq (s : State) : startPeriods s = periodsStarted s := rfl

theorem runPeriod_eq (c : Corner) (s : State) : runPeriod c s = periodRunning c s := rfl

theorem endPeriod_eq (c : Corner) (s : State) : endPeriod c s = periodOver c s := by
  have hall : (corners.all fun e => ((s.setCorner c { s.corner c with periodEnded := true }).corner e).periodEnded) =
      corners.all fun e => e == c || (s.corner e).periodEnded := by
    congr 1
    funext e
    by_cases he : e = c <;> simp [corner_setCorner, he]
  have hstart : startPeriods (s.setCorner c { s.corner c with periodEnded := true }) = startPeriods s := by
    have hrecords : startPeriod (s.setCorner c { s.corner c with periodEnded := true }) = startPeriod s := by
      funext d
      by_cases hd : d = c <;> simp [startPeriod, corner_setCorner, hd]
    rw [startPeriods, hrecords]
    rfl
  unfold endPeriod periodOver
  dsimp only
  rw [hall, hstart]
  rfl

theorem exec_currentMeasurement {s : State} (c : Corner) (average : Nat) (hrun : s.resetInProgress = false) :
    exec (.currentMeasurement c average) s =
      .next (periodOver c (actOnMeasurement c (min 2500 average) (keepMeasurement c (min 2500 average) (periodRunning c s)))) := by
  rw [← endPeriod_eq, ← runPeriod_eq]
  simp [exec, execCurrentMeasurement, hrun, Config.currentMax]

/-- The periods that start leave the state, the target and the monitor items of every corner as they were. -/
theorem periodRunning_keeps (c : Corner) (s : State) :
    (∀ d, ((periodRunning c s).corner d).state = (s.corner d).state) ∧ (periodRunning c s).monitor = s.monitor ∧
      (periodRunning c s).mgmt = s.mgmt ∧ (periodRunning c s).tables = s.tables ∧ (periodRunning c s).link = s.link ∧
      (periodRunning c s).drive.slots = s.drive.slots ∧ (periodRunning c s).drive.waiting = s.drive.waiting := by
  refine ⟨fun d => state_runPeriod c d s, ?_⟩
  unfold periodRunning
  split <;> exact ⟨rfl, rfl, rfl, rfl, rfl, rfl⟩

/-! ### The measured corner -/

section
variable {s t : State} {c : Corner} {m : Nat}

theorem keepMeasurement_at (c : Corner) (m : Nat) (s : State) :
    (keepMeasurement c m s).corner c = { s.corner c with measured := m } ∧
      OnlyCorners s (keepMeasurement c m s) [c] := by
  refine ⟨?_, onlyCorners_of fun d hd => ⟨?_, rfl⟩⟩
  · rw [keepMeasurement, corner_setCorner, if_pos rfl]
  · rw [keepMeasurement, corner_setCorner, if_neg hd]

theorem sameRequests_keepMeasurement (c : Corner) (m : Nat) (s : State) : SameRequests s (keepMeasurement c m s) :=
  ⟨rfl, rfl, fun _ => rfl⟩

/-- Outside the two corners that a slot goes from and to, the base state may differ at the first of them. -/
theorem SlotPassedOn.of_others (h : SlotPassedOn s t c) {b : State} (hslots : s.drive.slots = b.drive.slots)
    (hwaiting : s.drive.waiting = b.drive.waiting) (htables : s.tables = b.tables) (hothers : OnlyCorners b s [c])
    (hnot : c ∉ b.drive.waiting) : SlotPassedOn b t c := by
  unfold SlotPassedOn at h ⊢
  rw [hwaiting, hslots, htables] at h
  cases hlist : b.drive.waiting with
  | nil =>
    rw [hlist] at h
    obtain ⟨h1, h2, h3⟩ := h
    refine ⟨h1, h2, fun x hx => ?_⟩
    obtain ⟨hc, hm⟩ := hothers x hx
    obtain ⟨hc', hm'⟩ := h3 x hx
    exact ⟨hc'.trans hc, hm'.trans hm⟩
  | cons d rest =>
    rw [hlist] at h hnot
    obtain ⟨h1, h2, h3, h4, h5⟩ := h
    obtain ⟨hd, hdm⟩ := hothers d (by
      rw [List.mem_singleton]
      rintro rfl
      exact hnot (by simp))
    refine ⟨h1, h2, by rw [h3, hd], h4.trans hdm, fun x hx => ?_⟩
    obtain ⟨hc, hm⟩ := hothers x (fun hxc => hx (by simpa using .inl (List.mem_singleton.mp hxc)))
    obtain ⟨hc', hm'⟩ := h5 x hx
    exact ⟨hc'.trans hc, hm'.trans hm⟩

theorem not_mem_waiting_of_boost {timeout : Nat} (h : ArbiterLaws s) (hboost : (s.corner c).state = .boost timeout) :
    c ∉ s.drive.waiting := by
  obtain ⟨hlists, -⟩ := (arbiterLaws_iff s).mp h
  exact hlists.not_mem_waiting (by simp [State.states, hboost])

/-- An operation that only writes items of `c`'s record other than its state keeps the arbiter's laws. -/
theorem ArbiterLaws.record (h : ArbiterLaws s) {x : DriveRecord} (hstate : x.state = (s.corner c).state) :
    ArbiterLaws (s.setCorner c x) :=
  h.of_states rfl rfl fun d => by
    rw [corner_setCorner]
    split
    · next hd => rw [hstate, hd]
    · rfl

end

/-! ### Boosts (R119, R120) -/

theorem exec_boostTimerExpiry_of_boost {s : State} {c : Corner} {timeout : Nat} (hrun : s.resetInProgress = false)
    (hboost : (s.corner c).state = .boost timeout) :
    exec (.boostTimerExpiry c) s = .next (endBoost c (s.corner c).target (setFlag .boostTimeout (countTimeout c s))) := by
  simp [exec, execBoostTimerExpiry, hrun, hboost]

theorem exec_boostTimerExpiry_of_other {s : State} {c : Corner} (hnot : ∀ timeout, (s.corner c).state ≠ .boost timeout) :
    exec (.boostTimerExpiry c) s = .next s := by
  cases hstate : (s.corner c).state with
  | boost timeout => exact absurd hstate (hnot timeout)
  | off | hold | wait | fault => cases hrun : s.resetInProgress <;> simp [exec, execBoostTimerExpiry, hrun, hstate]

/-- A boost that ends by its timer. -/
theorem boostTimerExpiry_ends {s : State} {c : Corner} {timeout : Nat} (hnone : NoTest s) (h : ArbiterLaws s)
    (hboost : (s.corner c).state = .boost timeout) :
    let t := endBoost c (s.corner c).target (setFlag .boostTimeout (countTimeout c s))
    OnlyDriveAndFlags s t ∧ Flag.boostTimeout.isSet t.mgmt.flags = true ∧
      OtherFlagsKept s.mgmt.flags t.mgmt.flags [.boostTimeout] ∧ t.drive.staggered = s.drive.staggered ∧
      t.corner c =
        { s.corner c with
          state := .hold
          duty := feedForward s c (s.corner c).target
          timeouts := (s.corner c).timeouts + 1 } ∧
      t.monitorOf c = settling s ∧ SlotPassedOn s t c := by
  intro t
  have hcounted : (setFlag .boostTimeout (countTimeout c s)).corner c =
      { s.corner c with timeouts := (s.corner c).timeouts + 1 } := by
    rw [corner_setFlag, countTimeout, corner_setCorner, if_pos rfl]
  have hothers : OnlyCorners s (setFlag .boostTimeout (countTimeout c s)) [c] := onlyCorners_of
    (f := fun s => setFlag .boostTimeout (countTimeout c s)) fun d hd =>
      ⟨by rw [corner_setFlag, countTimeout, corner_setCorner, if_neg hd], rfl⟩
  have hquiet : NoTest (setFlag .boostTimeout (countTimeout c s)) := hnone
  have hlaws : ArbiterLaws (setFlag .boostTimeout (countTimeout c s)) :=
    h.record (x := { s.corner c with timeouts := (s.corner c).timeouts + 1 }) rfl
  obtain ⟨hcorner, hmonitor, hpassed⟩ := endBoost_at (i := (s.corner c).target) hlaws hquiet
    (by rw [hcounted]; exact hboost)
  have hrequests := sameRequests_endBoost c (s.corner c).target (s := setFlag .boostTimeout (countTimeout c s))
    fun d _ => hnone d
  refine ⟨⟨by simp [t], by simp [t], hrequests.link, by simp [t], by simp [t], by simp [t], by simp [t], by simp [t],
    by simp [t], ?_⟩, ?_, ?_, by simp [t], ?_, hmonitor, ?_⟩
  · rw [hrequests.mgmt]
    rfl
  · rw [hrequests.mgmt, setFlag_isSet]
    simp
  · rw [hrequests.mgmt]
    exact flagsKept_setFlag .boostTimeout (countTimeout c s)
  · rw [hcorner, hcounted]
    rfl
  · exact hpassed.of_others rfl rfl rfl hothers (not_mem_waiting_of_boost h hboost)

theorem actOnMeasurement_of_boost {s : State} {c : Corner} {m timeout : Nat} (hboost : (s.corner c).state = .boost timeout) :
    actOnMeasurement c m s =
      if ((s.corner c).target : Int) - s.tables.active.boostBand ≤ m then endBoost c (s.corner c).target s else s := by
  simp [actOnMeasurement, hboost]

/-- A measurement of a corner in BOOST. -/
theorem measurement_at_boost {s : State} {c : Corner} {m timeout : Nat} (hnone : NoTest s) (h : ArbiterLaws s)
    (hboost : (s.corner c).state = .boost timeout) :
    let t := actOnMeasurement c m (keepMeasurement c m s)
    OnlyDriveAndFlags s t ∧ t.mgmt.flags = s.mgmt.flags ∧ t.drive.staggered = s.drive.staggered ∧
      (((s.corner c).target : Int) - s.tables.active.boostBand ≤ m →
        t.corner c =
          { s.corner c with state := .hold, duty := feedForward s c (s.corner c).target, measured := m } ∧
        t.monitorOf c = settling s ∧ SlotPassedOn s t c) ∧
      ((m : Int) < (s.corner c).target - s.tables.active.boostBand →
        t.corner c = { s.corner c with measured := m } ∧ t.monitorOf c = s.monitorOf c ∧ OnlyCorners s t [c] ∧
        t.drive.slots = s.drive.slots ∧ t.drive.waiting = s.drive.waiting) := by
  intro t
  obtain ⟨hkept, hothers⟩ := keepMeasurement_at c m s
  have hquiet : NoTest (keepMeasurement c m s) := hnone
  have hlaws : ArbiterLaws (keepMeasurement c m s) := h.record rfl
  have hstate : ((keepMeasurement c m s).corner c).state = .boost timeout := by rw [hkept]; exact hboost
  have htarget : ((keepMeasurement c m s).corner c).target = (s.corner c).target := by rw [hkept]
  have ht : t = if ((s.corner c).target : Int) - s.tables.active.boostBand ≤ m then
      endBoost c (s.corner c).target (keepMeasurement c m s) else keepMeasurement c m s := by
    rw [← htarget]
    exact actOnMeasurement_of_boost hstate
  have hrequests : SameRequests s t := by
    rw [ht]
    split
    · exact (sameRequests_keepMeasurement c m s).trans (sameRequests_endBoost c _ fun d _ => hnone d)
    · exact sameRequests_keepMeasurement c m s
  obtain ⟨honly, hflags⟩ := hrequests.onlyDrive (by simp [t]) (by simp [t]) (by simp [t]) (by simp [t]) (by simp [t])
    (by simp [t]) (by simp [t]) (by simp [t])
  refine ⟨honly, hflags, by simp [t], fun hnear => ?_, fun hfar => ?_⟩
  · obtain ⟨hcorner, hmonitor, hpassed⟩ := endBoost_at (i := (s.corner c).target) hlaws hquiet hstate
    rw [ht, if_pos hnear, hcorner, hkept]
    exact ⟨rfl, hmonitor, hpassed.of_others rfl rfl rfl hothers (not_mem_waiting_of_boost h hboost)⟩
  · rw [ht, if_neg (Int.not_le.mpr hfar)]
    exact ⟨hkept, rfl, hothers, rfl, rfl⟩

/-! ### The outputs (R108) -/

/-- The measured currents and the outputs are as they were, but that a corner that has gone to FAULT has its output switched
off. -/
def OutputsRun (s t : State) : Prop :=
  ∀ d, (t.corner d).measured = (s.corner d).measured ∧
    (t.corner d).outputDuty =
      (if (t.corner d).state = .fault ∧ (s.corner d).state ≠ .fault then 0 else (s.corner d).outputDuty)

section
variable {s t : State} {c : Corner}

theorem OutputsRun.of_corners (h : ∀ d, t.corner d = s.corner d) : OutputsRun s t := fun d => by
  rw [h]
  exact ⟨rfl, (if_neg fun hfault => hfault.2 hfault.1).symm⟩

/-- No corner has gone to FAULT, and the measured currents and the outputs are as they were. -/
def OutputsKept (s t : State) : Prop :=
  ∀ d, (t.corner d).measured = (s.corner d).measured ∧ (t.corner d).outputDuty = (s.corner d).outputDuty ∧
    ((t.corner d).state = .fault → (s.corner d).state = .fault)

theorem OutputsKept.run (h : OutputsKept s t) : OutputsRun s t := fun d => by
  obtain ⟨hmeasured, houtput, hfault⟩ := h d
  exact ⟨hmeasured, houtput.trans (if_neg fun hnew => hnew.2 (hfault hnew.1)).symm⟩

theorem OutputsKept.trans {u : State} (h : OutputsKept s t) (g : OutputsKept t u) : OutputsKept s u := fun d => by
  obtain ⟨hm, ho, hf⟩ := h d
  obtain ⟨gm, go, gf⟩ := g d
  exact ⟨gm.trans hm, go.trans ho, fun hfault => hf (gf hfault)⟩

theorem OutputsKept.of_corners (h : ∀ d, t.corner d = s.corner d) : OutputsKept s t := fun d => by
  rw [h]
  exact ⟨rfl, rfl, id⟩

theorem outputsKept_toHold (c : Corner) (i : Nat) (s : State) : OutputsKept s (toHold c i s) := fun d => by
  rw [corner_toHold]
  split
  · next hd => exact ⟨by rw [hd], by rw [hd], fun hfault => by cases hfault⟩
  · exact ⟨rfl, rfl, id⟩

theorem outputsKept_toBoost (c : Corner) (i : Nat) (s : State) : OutputsKept s (toBoost c i s) := fun d => by
  rw [corner_toBoost]
  split
  · next hd => exact ⟨by rw [hd], by rw [hd], fun hfault => by cases hfault⟩
  · exact ⟨rfl, rfl, id⟩

theorem outputsKept_grantHead (s : State) : OutputsKept s (grantHead s) := by
  unfold grantHead
  split
  · exact .of_corners fun _ => rfl
  · next d rest _ =>
    split
    · exact OutputsKept.trans (t := s.setWaiting rest) (.of_corners fun _ => rfl) (outputsKept_toBoost _ _ _)
    · exact .of_corners fun _ => rfl

theorem outputsKept_endBoost (c : Corner) (i : Nat) (s : State) : OutputsKept s (endBoost c i s) :=
  (outputsKept_toHold c i s).trans
    (OutputsKept.trans (t := (toHold c i s).setSlots ((toHold c i s).drive.slots.erase c)) (.of_corners fun _ => rfl)
      (outputsKept_grantHead _))

theorem outputsRun_latchFault (c : Corner) (x : FaultCause) (s : State) : OutputsRun s (latchFault c x s) := fun d => by
  rw [corner_latchFault]
  split
  · next hd =>
    subst hd
    split <;> simp_all
  · exact (OutputsKept.of_corners (s := s) (t := s) fun _ => rfl).run d

theorem OutputsRun.of_base {b : State} (h : OutputsRun b t) (hcorners : ∀ d, b.corner d = s.corner d) : OutputsRun s t :=
  fun d => by
    rw [← hcorners]
    exact h d

theorem outputsRun_judgeDriven (c : Corner) (m : Nat) (s : State) : OutputsRun s (judgeDriven c m s) := by
  unfold judgeDriven
  dsimp only
  split
  · split
    · exact (outputsRun_latchFault c _ _).of_base fun _ => rfl
    · exact (OutputsKept.of_corners fun _ => rfl).run
  · exact (OutputsKept.of_corners fun _ => rfl).run

theorem outputsRun_judgeOff (c : Corner) (m : Nat) (s : State) : OutputsRun s (judgeOff c m s) := by
  unfold judgeOff
  dsimp only
  split
  · split
    · exact (outputsRun_latchFault c _ _).of_base fun _ => rfl
    · exact (OutputsKept.of_corners fun _ => rfl).run
  · exact (OutputsKept.of_corners fun _ => rfl).run

theorem outputsRun_judge (c : Corner) (m : Nat) (s : State) : OutputsRun s (judge c m s) := by
  unfold judge
  split
  · exact (OutputsKept.of_corners fun _ => rfl).run
  · split
    · exact (OutputsKept.of_corners fun _ => rfl).run
    · split
      · exact (OutputsKept.of_corners (corner_of_drive (by simp))).run
      · exact outputsRun_judgeDriven c m s
      · exact outputsRun_judgeDriven c m s
      · exact outputsRun_judgeOff c m s
      · exact outputsRun_judgeOff c m s
      · exact (OutputsKept.of_corners fun _ => rfl).run

theorem outputsRun_actOnMeasurement (c : Corner) (m : Nat) (s : State) : OutputsRun s (actOnMeasurement c m s) := by
  unfold actOnMeasurement
  split
  · split
    · exact (outputsKept_endBoost c _ s).run
    · exact (OutputsKept.of_corners fun _ => rfl).run
  all_goals exact outputsRun_judge c m s

end

/-- Settles O26: the two ways a boost ends pass its slot on, and a measurement leaves every output running but that of the
corner it faults. -/
theorem boostsEndByTimerOrWithinTheBand : Obligations.BoostsEndByTimerOrWithinTheBand := by
  refine ⟨fun c s hrun hnone hlaw => ⟨exec_boostTimerExpiry_of_other, fun timeout hboost => ?_⟩,
    fun c average timeout b hrun hnone hlaw hboost => ?_, fun c average b hrun => ?_⟩
  · exact ⟨_, exec_boostTimerExpiry_of_boost hrun hboost, boostTimerExpiry_ends hnone hlaw.lists hboost⟩
  · obtain ⟨hstate, hmonitor, -⟩ := periodRunning_keeps c b
    have hquiet : NoTest (periodRunning c b) := hnone.of_monitor hmonitor
    have hlaws : ArbiterLaws (periodRunning c b) := hlaw.runPeriod.lists
    exact ⟨_, exec_currentMeasurement c average hrun, measurement_at_boost hquiet hlaws ((hstate c).trans hboost)⟩
  · refine ⟨_, exec_currentMeasurement c average hrun, ?_, ?_, fun d => ?_⟩
    · rw [(outputsRun_actOnMeasurement c _ _ c).1, (keepMeasurement_at c _ _).1]
    · simp
    · have hrecord : ((keepMeasurement c (min 2500 average) (periodRunning c b)).corner d).outputDuty =
          ((periodRunning c b).corner d).outputDuty := by
        by_cases hd : d = c
        · rw [hd, (keepMeasurement_at c _ _).1]
        · rw [((keepMeasurement_at c _ _).2 d (by simpa using hd)).1]
      have hperiods := (SamePeriods.trans (t := keepMeasurement c (min 2500 average) (periodRunning c b))
        samePeriods_setCorner (samePeriods_actOnMeasurement c _ (min 2500 average))) d
      refine ⟨hperiods.2, hperiods.1, ?_⟩
      rw [(outputsRun_actOnMeasurement c _ _ d).2, state_keepMeasurement, hrecord]

end Sys2Proof.Machine

/-! The Current Monitor's judgements (R121, R131 to R133, R137): one measurement at a driven corner, at an undriven one and
at one under test. -/

namespace Sys2Proof.Machine

section
variable {s t : State} {c : Corner} {m : Nat}

/-! ### Which judgement a measurement gets (R131) -/

theorem actOnMeasurement_of_other (hnot : ∀ timeout, (s.corner c).state ≠ .boost timeout) :
    actOnMeasurement c m s = judge c m s := by
  cases hstate : (s.corner c).state with
  | boost timeout => exact absurd hstate (hnot timeout)
  | off | hold | wait | fault => simp [actOnMeasurement, hstate]

theorem judge_of_invalid (h : s.tables.activeValid = false) : judge c m s = s := by simp [judge, h]

theorem judge_of_settling (h : s.tables.activeValid = true) (hsettle : 0 < (s.monitorOf c).settle) :
    judge c m s = s.setMonitor c { s.monitorOf c with settle := (s.monitorOf c).settle - 1 } := by
  simp [judge, h, hsettle]

theorem judge_of_held (h : s.tables.activeValid = true) (hsettle : (s.monitorOf c).settle = 0)
    (hheld : (s.corner c).state.isHeld = true) (hnone : (s.monitorOf c).test = none) :
    judge c m s = judgeDriven c m s := by
  cases hstate : (s.corner c).state with
  | hold | wait => simp [judge, h, hsettle, hstate, hnone]
  | off | boost | fault =>
    rw [hstate] at hheld
    cases hheld

theorem judge_of_off (h : s.tables.activeValid = true) (hsettle : (s.monitorOf c).settle = 0)
    (hoff : (s.corner c).state.isOff = true) : judge c m s = judgeOff c m s := by
  cases hstate : (s.corner c).state with
  | off | fault => simp [judge, h, hsettle, hstate]
  | hold | wait | boost =>
    rw [hstate] at hoff
    cases hoff

theorem judge_of_test {x : MonitorTest} (h : s.tables.activeValid = true) (hsettle : (s.monitorOf c).settle = 0)
    (hhold : (s.corner c).state = .hold) (hx : (s.monitorOf c).test = some x) : judge c m s = judgeTest c m x s := by
  simp [judge, h, hsettle, hhold, hx]

/-! ### What every judgement without a test leaves as it was -/

/-- A judgement at a corner touches that corner alone, offers nothing and sets no flag but CORNER_FAULT. -/
structure JudgedAt (c : Corner) (s t : State) : Prop where
  link : t.link = s.link
  mgmt : t.mgmt = s.mgmt ∨ t.mgmt = (setFlag .cornerFault s).mgmt
  others : OnlyCorners s t [c]

theorem onlyCorners_setMonitor (c : Corner) (x : MonitorRecord) (s : State) : OnlyCorners s (s.setMonitor c x) [c] :=
  onlyCorners_of (f := fun s => s.setMonitor c x) fun d hd => ⟨rfl, by rw [monitorOf_setMonitor, if_neg hd]⟩

theorem OnlyCorners.trans {u : State} {cs : List Corner} (h : OnlyCorners s t cs) (g : OnlyCorners t u cs) :
    OnlyCorners s u cs := fun d hd => by
  obtain ⟨hc, hm⟩ := h d hd
  obtain ⟨gc, gm⟩ := g d hd
  exact ⟨gc.trans hc, gm.trans hm⟩

theorem JudgedAt.refl (c : Corner) (s : State) : JudgedAt c s s := ⟨rfl, .inl rfl, fun _ _ => ⟨rfl, rfl⟩⟩

theorem judgedAt_setMonitor (c : Corner) (x : MonitorRecord) (s : State) : JudgedAt c s (s.setMonitor c x) :=
  ⟨rfl, .inl rfl, onlyCorners_setMonitor c x s⟩

/-- A judgement of a state that differs from the base at the corner alone. -/
theorem JudgedAt.of_base {b : State} (h : JudgedAt c b t) (hlink : b.link = s.link) (hmgmt : b.mgmt = s.mgmt)
    (hothers : OnlyCorners s b [c]) : JudgedAt c s t := by
  refine ⟨h.link.trans hlink, ?_, hothers.trans h.others⟩
  have hflagged : (setFlag .cornerFault b).mgmt = (setFlag .cornerFault s).mgmt := by
    rw [setFlag_mgmt, setFlag_mgmt, hmgmt]
  rw [← hmgmt, ← hflagged]
  exact h.mgmt

theorem JudgedAt.onlyDrive (h : JudgedAt c s t) (hpending : t.pending = s.pending := by simp)
    (hreset : t.resetInProgress = s.resetInProgress := by simp) (hcapture : t.capture = s.capture := by simp)
    (htiming : t.timing = s.timing := by simp) (hengine : t.engine = s.engine := by simp)
    (htables : t.tables = s.tables := by simp) (hsupply : t.supply = s.supply := by simp)
    (hgate : t.gate = s.gate := by simp) :
    OnlyDriveAndFlags s t ∧ OtherFlagsKept s.mgmt.flags t.mgmt.flags [.cornerFault] := by
  have hkept : { t.mgmt with flags := s.mgmt.flags } = s.mgmt ∧
      OtherFlagsKept s.mgmt.flags t.mgmt.flags [.cornerFault] := by
    rcases h.mgmt with hmgmt | hmgmt
    · rw [hmgmt]
      exact ⟨rfl, fun _ _ => rfl⟩
    · rw [hmgmt]
      exact ⟨rfl, flagsKept_setFlag .cornerFault s⟩
  exact ⟨⟨hpending, hreset, h.link, hcapture, htiming, hengine, htables, hsupply, hgate, hkept.1⟩, hkept.2⟩

/-! ### A fault latched (R121) -/

/-- A corner out of FAULT goes there, off the pending list and settling. -/
theorem latchFault_at (x : FaultCause) (hnone : (s.monitorOf c).test = none) (hnot : (s.corner c).state ≠ .fault) :
    (latchFault c x s).corner c = { s.corner c with state := .fault, duty := 0, outputDuty := 0, cause := x } ∧
      (latchFault c x s).monitorOf c = settling s ∧ (latchFault c x s).drive.waiting = s.drive.waiting.erase c ∧
      JudgedAt c s (latchFault c x s) ∧ (latchFault c x s).mgmt = (setFlag .cornerFault s).mgmt := by
  have heq : latchFault c x s = startSettling c
      ((enter c .fault (s.corner c).target
        (setFlag .cornerFault (s.setCorner c { s.corner c with cause := x }))).setWaiting (s.drive.waiting.erase c)) := by
    unfold latchFault
    dsimp only
    rw [if_neg hnot]
    exact congrArg (startSettling c) (abortTest_none hnone)
  refine ⟨by rw [corner_latchFault, if_pos rfl, if_neg hnot], ?_, by rw [heq]; rfl, ⟨by rw [heq]; rfl,
    .inr (by rw [heq]; rfl), onlyCorners_of fun d hd => ⟨by rw [corner_latchFault, if_neg hd], ?_⟩⟩, by rw [heq]; rfl⟩
  · rw [heq, monitorOf_startSettling, if_pos rfl]
    exact congrArg (MonitorRecord.mk _ _ _) hnone
  · rw [heq, monitorOf_startSettling, if_neg hd]
    rfl

/-- A corner in FAULT has its cause changed alone. -/
theorem latchFault_at_fault (x : FaultCause) (hfault : (s.corner c).state = .fault) :
    (latchFault c x s).corner c = { s.corner c with cause := x } ∧ (latchFault c x s).monitorOf c = s.monitorOf c ∧
      (latchFault c x s).drive.waiting = s.drive.waiting ∧ JudgedAt c s (latchFault c x s) ∧
      (latchFault c x s).mgmt = (setFlag .cornerFault s).mgmt := by
  have heq : latchFault c x s = setFlag .cornerFault (s.setCorner c { s.corner c with cause := x }) := by
    unfold latchFault
    dsimp only
    rw [if_pos hfault]
  refine ⟨by rw [corner_latchFault, if_pos rfl, if_pos hfault], by rw [heq]; rfl, by rw [heq]; rfl, ⟨by rw [heq]; rfl,
    .inr (by rw [heq]; rfl), onlyCorners_of fun d hd => ⟨by rw [corner_latchFault, if_neg hd], by rw [heq]; rfl⟩⟩,
    by rw [heq]; rfl⟩

theorem cornerFault_set (s : State) : Flag.cornerFault.isSet (setFlag .cornerFault s).mgmt.flags = true := by
  rw [setFlag_isSet]
  simp

/-! ### A driven corner (R132) -/

theorem deviates_iff (s : State) (c : Corner) (v : Int) :
    deviates s c v = true ↔ (s.tables.active.tolerance : Int) < |v - (s.corner c).target| := by
  rw [deviates, decide_eq_true_iff, Int.abs_eq_natAbs]
  exact Int.ofNat_lt.symm

theorem judgeDriven_within (h : ¬ (s.tables.active.tolerance : Int) < |(m : Int) - (s.corner c).target|) :
    judgeDriven c m s = s.setMonitor c { s.monitorOf c with deviation := 0 } := by
  rw [judgeDriven, if_neg (by rwa [deviates_iff])]

theorem judgeDriven_counts (h : (s.tables.active.tolerance : Int) < |(m : Int) - (s.corner c).target|)
    (hbelow : (s.monitorOf c).deviation + 1 < s.tables.active.faultCount) :
    judgeDriven c m s = s.setMonitor c { s.monitorOf c with deviation := (s.monitorOf c).deviation + 1 } := by
  rw [judgeDriven, if_pos (by rwa [deviates_iff])]
  exact if_neg (Nat.not_le.mpr hbelow)

theorem judgeDriven_faults (h : (s.tables.active.tolerance : Int) < |(m : Int) - (s.corner c).target|)
    (hreached : s.tables.active.faultCount ≤ (s.monitorOf c).deviation + 1) :
    judgeDriven c m s =
      latchFault c (if m < 50 then .openCoil else .deviation)
        (s.setMonitor c { s.monitorOf c with deviation := (s.monitorOf c).deviation + 1 }) := by
  rw [judgeDriven, if_pos (by rwa [deviates_iff])]
  exact if_pos hreached

theorem ne_fault_of_held (hheld : (s.corner c).state.isHeld = true) : (s.corner c).state ≠ .fault := fun hfault => by
  rw [hfault] at hheld
  cases hheld

/-- A driven corner judged, no test running. -/
theorem judge_at_held (hheld : (s.corner c).state.isHeld = true) (hnone : (s.monitorOf c).test = none) :
    let t := judge c m s
    let mon := s.monitorOf c
    let off := (s.tables.active.tolerance : Int) < |(m : Int) - (s.corner c).target|
    JudgedAt c s t ∧
      (s.tables.activeValid = false → t.corner c = s.corner c ∧ t.monitorOf c = mon ∧
        t.drive.waiting = s.drive.waiting ∧ t.mgmt.flags = s.mgmt.flags) ∧
      (s.tables.activeValid = true → 0 < mon.settle →
        t.corner c = s.corner c ∧ t.monitorOf c = { mon with settle := mon.settle - 1 } ∧
        t.drive.waiting = s.drive.waiting ∧ t.mgmt.flags = s.mgmt.flags) ∧
      (s.tables.activeValid = true → mon.settle = 0 →
        (¬ off → t.corner c = s.corner c ∧ t.monitorOf c = { mon with deviation := 0 } ∧
          t.drive.waiting = s.drive.waiting ∧ t.mgmt.flags = s.mgmt.flags) ∧
        (off → mon.deviation + 1 < s.tables.active.faultCount →
          t.corner c = s.corner c ∧ t.monitorOf c = { mon with deviation := mon.deviation + 1 } ∧
          t.drive.waiting = s.drive.waiting ∧ t.mgmt.flags = s.mgmt.flags) ∧
        (off → s.tables.active.faultCount ≤ mon.deviation + 1 →
          t.corner c =
            { s.corner c with
              state := .fault
              duty := 0
              outputDuty := 0
              cause := if m < 50 then .openCoil else .deviation } ∧
          t.monitorOf c = settling s ∧ t.drive.waiting = s.drive.waiting.erase c ∧
          Flag.cornerFault.isSet t.mgmt.flags = true)) := by
  intro t mon off
  have hset (x : MonitorRecord) : (s.setMonitor c x).monitorOf c = x := by rw [monitorOf_setMonitor, if_pos rfl]
  cases hvalid : s.tables.activeValid with
  | false =>
    have ht : t = s := judge_of_invalid hvalid
    rw [ht]
    exact ⟨.refl c s, fun _ => ⟨rfl, rfl, rfl, rfl⟩, fun h => absurd h Bool.false_ne_true, fun h => absurd h Bool.false_ne_true⟩
  | true =>
    rcases Nat.eq_zero_or_pos mon.settle with hzero | hsettle
    · have ht : t = judgeDriven c m s := judge_of_held hvalid hzero hheld hnone
      by_cases hoff : off
      · rcases Nat.lt_or_ge (mon.deviation + 1) s.tables.active.faultCount with hbelow | hreached
        · rw [ht, judgeDriven_counts hoff hbelow]
          exact ⟨judgedAt_setMonitor c _ s, fun h => absurd h.symm Bool.false_ne_true, fun _ h => absurd h (by omega),
            fun _ _ => ⟨fun h => absurd hoff h, fun _ _ => ⟨rfl, hset _, rfl, rfl⟩, fun _ h => absurd h (by omega)⟩⟩
        · rw [ht, judgeDriven_faults hoff hreached]
          obtain ⟨hcorner, hmonitor, hwaiting, hjudged, hmgmt⟩ := latchFault_at
            (s := s.setMonitor c { mon with deviation := mon.deviation + 1 }) (c := c)
            (if m < 50 then .openCoil else .deviation) (by rw [hset]; exact hnone) (ne_fault_of_held hheld)
          refine ⟨hjudged.of_base rfl rfl (onlyCorners_setMonitor c _ s), fun h => absurd h.symm Bool.false_ne_true,
            fun _ h => absurd h (by omega), fun _ _ => ⟨fun h => absurd hoff h, fun _ h => absurd h (by omega),
              fun _ _ => ⟨hcorner, hmonitor, hwaiting, ?_⟩⟩⟩
          rw [hmgmt]
          exact cornerFault_set _
      · rw [ht, judgeDriven_within hoff]
        exact ⟨judgedAt_setMonitor c _ s, fun h => absurd h.symm Bool.false_ne_true, fun _ h => absurd h (by omega),
          fun _ _ => ⟨fun _ => ⟨rfl, hset _, rfl, rfl⟩, fun h => absurd h hoff, fun h => absurd h hoff⟩⟩
    · have ht : t = s.setMonitor c { mon with settle := mon.settle - 1 } := judge_of_settling hvalid hsettle
      rw [ht]
      exact ⟨judgedAt_setMonitor c _ s, fun h => absurd h.symm Bool.false_ne_true, fun _ _ => ⟨rfl, hset _, rfl, rfl⟩,
        fun _ h => absurd h (by omega)⟩

/-! ### An undriven corner (R133) -/

theorem judgeOff_low (h : m ≤ 150) : judgeOff c m s = s.setMonitor c { s.monitorOf c with stuck := 0 } :=
  if_neg (Nat.not_lt.mpr h)

theorem judgeOff_counts (h : 150 < m) (hbelow : (s.monitorOf c).stuck + 1 < s.tables.active.faultCount) :
    judgeOff c m s = s.setMonitor c { s.monitorOf c with stuck := (s.monitorOf c).stuck + 1 } := by
  rw [judgeOff, if_pos (show Config.stuckLevel < m from h)]
  exact if_neg (Nat.not_le.mpr hbelow)

theorem judgeOff_faults (h : 150 < m) (hreached : s.tables.active.faultCount ≤ (s.monitorOf c).stuck + 1) :
    judgeOff c m s = latchFault c .stuckOn (s.setMonitor c { s.monitorOf c with stuck := 0 }) := by
  have hcleared : (s.setMonitor c { s.monitorOf c with stuck := (s.monitorOf c).stuck + 1 }).setMonitor c
      { (s.setMonitor c { s.monitorOf c with stuck := (s.monitorOf c).stuck + 1 }).monitorOf c with stuck := 0 } =
      s.setMonitor c { s.monitorOf c with stuck := 0 } := by
    rw [monitorOf_setMonitor, if_pos rfl]
    unfold State.setMonitor PerCorner.set
    cases c <;> rfl
  rw [judgeOff, if_pos (show Config.stuckLevel < m from h), ← hcleared]
  exact if_pos hreached

/-- An undriven corner judged, no test running. -/
theorem judge_at_off (hoff : (s.corner c).state.isOff = true) (hnone : (s.monitorOf c).test = none)
    (hnot : c ∉ s.drive.waiting) :
    let t := judge c m s
    let mon := s.monitorOf c
    JudgedAt c s t ∧ t.drive.waiting = s.drive.waiting ∧
      (s.tables.activeValid = false → t.corner c = s.corner c ∧ t.monitorOf c = mon ∧ t.mgmt.flags = s.mgmt.flags) ∧
      (s.tables.activeValid = true → 0 < mon.settle →
        t.corner c = s.corner c ∧ t.monitorOf c = { mon with settle := mon.settle - 1 } ∧
        t.mgmt.flags = s.mgmt.flags) ∧
      (s.tables.activeValid = true → mon.settle = 0 →
        (m ≤ 150 → t.corner c = s.corner c ∧ t.monitorOf c = { mon with stuck := 0 } ∧ t.mgmt.flags = s.mgmt.flags) ∧
        (150 < m → mon.stuck + 1 < s.tables.active.faultCount →
          t.corner c = s.corner c ∧ t.monitorOf c = { mon with stuck := mon.stuck + 1 } ∧
          t.mgmt.flags = s.mgmt.flags) ∧
        (150 < m → s.tables.active.faultCount ≤ mon.stuck + 1 →
          t.corner c =
            (if (s.corner c).state = .fault then { s.corner c with cause := .stuckOn }
              else { s.corner c with state := .fault, duty := 0, outputDuty := 0, cause := .stuckOn }) ∧
          Flag.cornerFault.isSet t.mgmt.flags = true ∧
          t.monitorOf c = (if (s.corner c).state = .fault then { mon with stuck := 0 } else settling s))) := by
  intro t mon
  have hset (x : MonitorRecord) : (s.setMonitor c x).monitorOf c = x := by rw [monitorOf_setMonitor, if_pos rfl]
  cases hvalid : s.tables.activeValid with
  | false =>
    have ht : t = s := judge_of_invalid hvalid
    rw [ht]
    exact ⟨.refl c s, rfl, fun _ => ⟨rfl, rfl, rfl⟩, fun h => absurd h Bool.false_ne_true,
      fun h => absurd h Bool.false_ne_true⟩
  | true =>
    rcases Nat.eq_zero_or_pos mon.settle with hzero | hsettle
    · have ht : t = judgeOff c m s := judge_of_off hvalid hzero hoff
      rcases Nat.lt_or_ge 150 m with hhigh | hlow
      · rcases Nat.lt_or_ge (mon.stuck + 1) s.tables.active.faultCount with hbelow | hreached
        · rw [ht, judgeOff_counts hhigh hbelow]
          exact ⟨judgedAt_setMonitor c _ s, rfl, fun h => absurd h.symm Bool.false_ne_true, fun _ h => absurd h (by omega),
            fun _ _ => ⟨fun h => absurd h (by omega), fun _ _ => ⟨rfl, hset _, rfl⟩, fun _ h => absurd h (by omega)⟩⟩
        · rw [ht, judgeOff_faults hhigh hreached]
          have hbase := onlyCorners_setMonitor c { mon with stuck := 0 } s
          by_cases hfault : (s.corner c).state = .fault
          · obtain ⟨hcorner, hmonitor, hwaiting, hjudged, hmgmt⟩ := latchFault_at_fault
              (s := s.setMonitor c { mon with stuck := 0 }) (c := c) .stuckOn hfault
            refine ⟨hjudged.of_base rfl rfl hbase, hwaiting, fun h => absurd h.symm Bool.false_ne_true,
              fun _ h => absurd h (by omega), fun _ _ => ⟨fun h => absurd h (by omega), fun _ h => absurd h (by omega),
                fun _ _ => ⟨?_, ?_, ?_⟩⟩⟩
            · rw [if_pos hfault]
              exact hcorner
            · rw [hmgmt]
              exact cornerFault_set _
            · rw [if_pos hfault]
              exact hmonitor.trans (hset _)
          · obtain ⟨hcorner, hmonitor, hwaiting, hjudged, hmgmt⟩ := latchFault_at
              (s := s.setMonitor c { mon with stuck := 0 }) (c := c) .stuckOn (by rw [hset]; exact hnone) hfault
            refine ⟨hjudged.of_base rfl rfl hbase, hwaiting.trans (List.erase_of_not_mem hnot),
              fun h => absurd h.symm Bool.false_ne_true, fun _ h => absurd h (by omega),
              fun _ _ => ⟨fun h => absurd h (by omega), fun _ h => absurd h (by omega), fun _ _ => ⟨?_, ?_, ?_⟩⟩⟩
            · rw [if_neg hfault]
              exact hcorner
            · rw [hmgmt]
              exact cornerFault_set _
            · rw [if_neg hfault]
              exact hmonitor
      · rw [ht, judgeOff_low hlow]
        exact ⟨judgedAt_setMonitor c _ s, rfl, fun h => absurd h.symm Bool.false_ne_true, fun _ h => absurd h (by omega),
          fun _ _ => ⟨fun _ => ⟨rfl, hset _, rfl⟩, fun h => absurd h (by omega), fun h => absurd h (by omega)⟩⟩
    · have ht : t = s.setMonitor c { mon with settle := mon.settle - 1 } := judge_of_settling hvalid hsettle
      rw [ht]
      exact ⟨judgedAt_setMonitor c _ s, rfl, fun h => absurd h.symm Bool.false_ne_true, fun _ _ => ⟨rfl, hset _, rfl⟩,
        fun _ h => absurd h (by omega)⟩

end

/-! ### The measurement events -/

/-- A measurement out of BOOST is judged on the corner's record with the measured current kept. -/
theorem exec_measurement_judged {b : State} {c : Corner} (average : Nat) (hrun : b.resetInProgress = false)
    (hnot : ∀ timeout, (b.corner c).state ≠ .boost timeout) :
    exec (.currentMeasurement c average) b =
      .next (periodOver c (judge c (min 2500 average) (keepMeasurement c (min 2500 average) (periodRunning c b)))) := by
  rw [exec_currentMeasurement c average hrun, actOnMeasurement_of_other fun timeout hboost => hnot timeout ?_]
  rw [← hboost, state_keepMeasurement, (periodRunning_keeps c b).1]

theorem drive_of_lists {s t : State} (hslots : t.drive.slots = s.drive.slots) (hwaiting : t.drive.waiting = s.drive.waiting)
    (hstaggered : t.drive.staggered = s.drive.staggered) : { t.drive with corners := s.drive.corners } = s.drive := by
  simp only [hslots, hwaiting, hstaggered]

theorem not_boost_of_held {d : DriveState} (h : d.isHeld = true) (timeout : Nat) : d ≠ .boost timeout := fun hd => by
  rw [hd] at h
  cases h

theorem not_boost_of_off {d : DriveState} (h : d.isOff = true) (timeout : Nat) : d ≠ .boost timeout := fun hd => by
  rw [hd] at h
  cases h

/-- Settles O31: a driven corner is judged on its kept record, and the period's end follows. -/
theorem drivenCornersAreJudgedByTolerance : Obligations.DrivenCornersAreJudgedByTolerance := by
  intro c average b hrun hheld hnone m s mon kept off
  obtain ⟨hstate, hmonitor, -⟩ := periodRunning_keeps c b
  obtain ⟨hkept, hothers⟩ := keepMeasurement_at c m s
  have hjudge := judge_at_held (s := keepMeasurement c m s) (c := c) (m := m)
    (by rw [state_keepMeasurement, hstate]; exact hheld)
    ((congrArg MonitorRecord.test (monitorOf_of_monitor hmonitor c)).trans hnone)
  rw [hkept] at hjudge
  obtain ⟨hjudged, hinvalid, hsettling, hsettled⟩ := hjudge
  have hsame : JudgedAt c s (judge c m (keepMeasurement c m s)) := hjudged.of_base rfl rfl hothers
  obtain ⟨honly, hflags⟩ := hsame.onlyDrive
  have hslots : (judge c m (keepMeasurement c m s)).drive.slots = s.drive.slots := by simp
  have hstaggered : (judge c m (keepMeasurement c m s)).drive.staggered = s.drive.staggered := by simp
  exact ⟨_, exec_measurement_judged average hrun (not_boost_of_held hheld), honly, hsame.others, hslots, hstaggered,
    hflags, hinvalid, hsettling, hsettled⟩

/-- Settles O32: as O31 for a corner in OFF or FAULT, whose record alone of the drive may change. -/
theorem undrivenCornersAreJudgedForStuckCurrent : Obligations.UndrivenCornersAreJudgedForStuckCurrent := by
  intro c average b hrun hoff hnone hnot m s mon kept
  obtain ⟨hstate, hmonitor, -, -, -, -, hwaits⟩ := periodRunning_keeps c b
  obtain ⟨hkept, hothers⟩ := keepMeasurement_at c m s
  have hjudge := judge_at_off (s := keepMeasurement c m s) (c := c) (m := m)
    (by rw [state_keepMeasurement, hstate]; exact hoff)
    ((congrArg MonitorRecord.test (monitorOf_of_monitor hmonitor c)).trans hnone) (by rw [← hwaits] at hnot; exact hnot)
  rw [hkept] at hjudge
  obtain ⟨hjudged, hwaiting, hinvalid, hsettling, hsettled⟩ := hjudge
  have hsame : JudgedAt c s (judge c m (keepMeasurement c m s)) := hjudged.of_base rfl rfl hothers
  obtain ⟨honly, hflags⟩ := hsame.onlyDrive
  refine ⟨_, exec_measurement_judged average hrun (not_boost_of_off hoff), honly, hsame.others, ?_, hflags,
    hinvalid, hsettling, hsettled⟩
  have hslots : (judge c m (keepMeasurement c m s)).drive.slots = s.drive.slots := by simp
  have hstaggered : (judge c m (keepMeasurement c m s)).drive.staggered = s.drive.staggered := by simp
  exact drive_of_lists hslots hwaiting hstaggered

/-! ### A corner under test (R137) -/

section
variable {s : State} {c : Corner} {m : Nat} {x : MonitorTest} {r : Request}

theorem deviates_test_iff (s : State) (c : Corner) (m : Nat) (d : TestDirection) :
    deviates s c (m + testOffset s d) = true ↔
      (s.tables.active.tolerance : Int) <
        |(m : Int) + (match d with
          | .high => 2 * (s.tables.active.tolerance : Int)
          | .low => -(2 * (s.tables.active.tolerance : Int))) - (s.corner c).target| := by
  rw [deviates_iff]
  cases d <;> rfl

/-- A judged measurement under test, `n` its deviation count: the three outcomes. -/
theorem judgeTest_at {n : Nat} {ended : State} (hlink : ended.link = s.link)
    (hmgmt : ended.mgmt = { s.mgmt with executing := none }) (hr : s.mgmt.executing = some r)
    (hn : n = if deviates s c (m + testOffset s x.direction) then (s.monitorOf c).deviation + 1 else 0) :
    let t := judgeTest c m x s
    OnlyCorners s t [c] ∧ t.corner c = s.corner c ∧
      (s.tables.active.faultCount ≤ n →
        t.monitorOf c = { s.monitorOf c with deviation := 0, test := none } ∧
        t.link = (answer r .ok [0#16, natWord (x.judged + 1)] ended).link ∧
        t.mgmt = (answer r .ok [0#16, natWord (x.judged + 1)] ended).mgmt) ∧
      (n < s.tables.active.faultCount → s.tables.active.faultCount + 8 ≤ x.judged + 1 →
        t.monitorOf c = { s.monitorOf c with deviation := 0, test := none } ∧
        t.link = (answer r .ok [1#16, natWord (x.judged + 1)] ended).link ∧
        Flag.monitorFailed.isSet t.mgmt.flags = true ∧ t.mgmt.executing = none) ∧
      (n < s.tables.active.faultCount → x.judged + 1 < s.tables.active.faultCount + 8 →
        t.monitorOf c =
          { s.monitorOf c with deviation := n, test := some { x with judged := x.judged + 1 } } ∧
        t.link = s.link ∧ t.mgmt = s.mgmt) := by
  intro t
  have hset (v : MonitorRecord) : (s.setMonitor c v).monitorOf c = v := by rw [monitorOf_setMonitor, if_pos rfl]
  have hdrive (d : Corner) : t.corner d = s.corner d := corner_of_drive (by simp [t]) d
  rcases Nat.lt_or_ge n s.tables.active.faultCount with hbelow | hreached
  · rcases Nat.lt_or_ge (x.judged + 1) (s.tables.active.faultCount + 8) with hgoesOn | hover
    · have ht : t = s.setMonitor c
          { s.monitorOf c with test := some { x with judged := x.judged + 1 }, deviation := n } := by
        simp only [t, judgeTest, ← hn, Config.testMargin]
        rw [if_neg (Nat.not_le.mpr hbelow), if_neg (Nat.not_le.mpr hgoesOn)]
      refine ⟨?_, hdrive c, fun h => absurd h (by omega), fun _ h => absurd h (by omega), fun _ _ => ?_⟩
      · rw [ht]
        exact onlyCorners_setMonitor c _ s
      · rw [ht]
        exact ⟨hset _, rfl, rfl⟩
    · have ht : t = answer r .ok [1#16, natWord (x.judged + 1)]
          { setFlag .monitorFailed (testOver c s) with
            mgmt := { (setFlag .monitorFailed (testOver c s)).mgmt with executing := none } } := by
        simp only [t, judgeTest, ← hn, Config.testMargin]
        rw [if_neg (Nat.not_le.mpr hbelow), if_pos hover]
        exact endExecuting_some .ok _ hr
      refine ⟨fun d hd => ⟨hdrive d, ?_⟩, hdrive c, fun h => absurd h (by omega), fun _ _ => ⟨?_, ?_, ?_, ?_⟩,
        fun _ h => absurd h (by omega)⟩
      · rw [ht, monitorOf_answer]
        exact (onlyCorners_setMonitor c _ s d hd).2
      · rw [ht, monitorOf_answer]
        exact hset _
      · rw [ht]
        exact answer_link_of r .ok _ hlink.symm
      · rw [ht, answer_isSet r .ok _ _ (by decide)]
        exact (setFlag_isSet .monitorFailed .monitorFailed (testOver c s)).trans (by simp)
      · rw [ht]
        simp
  · have ht : t = answer r .ok [0#16, natWord (x.judged + 1)]
        { testOver c s with mgmt := { s.mgmt with executing := none } } := by
      simp only [t, judgeTest, ← hn]
      rw [if_pos hreached]
      exact endExecuting_some .ok _ hr
    refine ⟨fun d hd => ⟨hdrive d, ?_⟩, hdrive c, fun _ => ⟨?_, ?_, ?_⟩, fun h => absurd h (by omega),
      fun h => absurd h (by omega)⟩
    · rw [ht, monitorOf_answer]
      exact (onlyCorners_setMonitor c _ s d hd).2
    · rw [ht, monitorOf_answer]
      exact hset _
    · rw [ht]
      exact answer_link_of r .ok _ hlink.symm
    · rw [ht]
      exact answer_mgmt_of r .ok _ hlink.symm hmgmt.symm

end

/-- Settles O33: the judged measurement's three outcomes, on the record with the measured current kept. -/
theorem monitorTestsPassOrFail : Obligations.MonitorTestsPassOrFail := by
  intro c average b x r hrun hvalid hhold hsettle hx hr m s offset n ended
  obtain ⟨hstate, hmonitor, hmgmt, htables, -⟩ := periodRunning_keeps c b
  obtain ⟨hkept, hothers⟩ := keepMeasurement_at c m s
  have hread (d : Corner) : (keepMeasurement c m s).monitorOf d = b.monitorOf d := monitorOf_of_monitor hmonitor d
  have hjudge : judge c m (keepMeasurement c m s) = judgeTest c m x (keepMeasurement c m s) := judge_of_test
    ((congrArg Tables.activeValid htables).trans hvalid) (by rw [hread]; exact hsettle)
    (by rw [state_keepMeasurement, hstate]; exact hhold) (by rw [hread]; exact hx)
  have hexec := exec_measurement_judged average hrun (c := c) fun timeout hboost => by cases hhold.symm.trans hboost
  obtain ⟨honly, hcorner, houtcomes⟩ := judgeTest_at (s := keepMeasurement c m s) (c := c) (m := m) (x := x) (n := n)
    (ended := ended) rfl rfl ((congrArg Mgmt.executing hmgmt).trans hr) (by
      simp only [deviates_test_iff, hkept]
      rfl)
  rw [show min 2500 average = m from rfl, show periodRunning c b = s from rfl, hjudge] at hexec
  exact ⟨_, hexec, hothers.trans honly, hcorner.trans hkept, houtcomes⟩

end Sys2Proof.Machine

/-! Requests (chapter 11): tables read and written, the bank committed or discarded, programmes, tests and the queue. -/

namespace Sys2Proof.Machine

section
variable {s : State} {r : Request} {rest : List Request}

/-! ### Execution events -/

theorem exec_load (h : AtExecution s r rest codeLoad) : exec .load s = .next (doLoad r (leaveQueue s rest)) :=
  execRequest_atExecution doLoad h

theorem exec_readTable (h : AtExecution s r rest codeReadTable) :
    exec .readTable s = .next (doReadTable r (leaveQueue s rest)) :=
  execRequest_atExecution doReadTable h

theorem exec_discard (h : AtExecution s r rest codeDiscard) : exec .discard s = .next (doDiscard r (leaveQueue s rest)) :=
  execRequest_atExecution doDiscard h

theorem exec_commit (h : AtExecution s r rest codeCommit) : exec .commit s = .next (doCommit r (leaveQueue s rest)) :=
  execRequest_atExecution doCommit h

theorem exec_setProgramme (h : AtExecution s r rest codeSetProgramme) :
    exec .setProgramme s = .next (doSetProgramme r (leaveQueue s rest)) :=
  execRequest_atExecution doSetProgramme h

theorem exec_monitorTest (h : AtExecution s r rest codeMonitorTest) :
    exec .monitorTest s = .next (doMonitorTest r (leaveQueue s rest)) :=
  execRequest_atExecution doMonitorTest h

theorem exec_readState (h : AtExecution s r rest codeReadState) :
    exec .readState s = .next (doReadState r (leaveQueue s rest)) :=
  execRequest_atExecution doReadState h

/-! ### SET_PROGRAMME (R53) -/

theorem programmeOf_none {n : Nat} (h : 3 ≤ n) : programmeOf n = none := by
  obtain ⟨m, rfl⟩ := Nat.exists_eq_add_of_le' h
  rfl

/-- What a named programme leads to. -/
theorem doSetProgramme_of_code {w : Word} {ws : List Word} {g : Programme} (s : State) (hops : r.operands = w :: ws)
    (hcode : programmeOf w.toNat = some g) :
    doSetProgramme r s =
      if g = s.engine.programme then answer r .ok [] s
      else if s.timing.selected = none then answer r .ok [] { s with engine := { s.engine with programme := g } }
      else keepExecuting r { s with engine := { s.engine with pendingProgramme := some g } } := by
  unfold doSetProgramme
  rw [hops]
  dsimp only
  rw [hcode]

/-- Settles O44: the codes by R192, then the two questions of R53 in their order. -/
theorem setProgrammeTakesItsCase : Obligations.SetProgrammeTakesItsCase := by
  intro s r rest hat
  rw [exec_setProgramme hat]
  refine ⟨fun hops => by simp [doSetProgramme, hops], fun w ws hops => ⟨fun hcode => ?_, fun g hg => ?_⟩⟩
  · unfold doSetProgramme
    rw [hops]
    dsimp only
    rw [programmeOf_none hcode]
    rfl
  · have hcode : programmeOf w.toNat = some g := by
      simp only [List.mem_cons, Prod.mk.injEq, List.not_mem_nil, or_false] at hg
      rcases hg with ⟨rfl, rfl⟩ | ⟨rfl, rfl⟩ | ⟨rfl, rfl⟩ <;> rfl
    rw [doSetProgramme_of_code _ hops hcode]
    refine ⟨fun hcurrent => ?_, fun hother hnone => ?_, fun hother hsome => ?_⟩
    · rw [if_pos (by simpa using hcurrent)]
    · rw [if_neg (by simpa using hother), if_pos (by simpa using hnone)]
      rfl
    · rw [if_neg (by simpa using hother), if_neg (by simpa using hsome)]
      rfl

/-! ### COMMIT (R155, R158) -/

/-- Settles O41: validation's outcome, then whether a source is selected. -/
theorem commitIsRejectedSwapsOrWaits : Obligations.CommitIsRejectedSwapsOrWaits := by
  intro s r rest hat
  rw [exec_commit hat, doCommit, show (leaveQueue s rest).tables = s.tables from rfl,
    show (leaveQueue s rest).gate = s.gate from rfl, show (leaveQueue s rest).timing = s.timing from rfl]
  refine ⟨fun n o hfails => by rw [hfails], fun hpasses => ⟨fun hnone => ?_, fun src hsrc => ?_⟩⟩
  · rw [hpasses]
    exact congrArg _ (if_pos hnone)
  · rw [hpasses]
    exact congrArg _ (if_neg (by simp [hsrc]))

/-! ### MONITOR_TEST (R136) -/

theorem cornerOf_none {n : Nat} (h : 4 ≤ n) : cornerOf n = none := by
  obtain ⟨m, rfl⟩ := Nat.exists_eq_add_of_le' h
  rfl

theorem cornerOf_cornerCode (c : Corner) : cornerOf (cornerCode c) = some c := by cases c <;> rfl

theorem directionOf_none {n : Nat} (h : 2 ≤ n) : directionOf n = none := by
  obtain ⟨m, rfl⟩ := Nat.exists_eq_add_of_le' h
  rfl

/-- Settles O46: the two codes by R192, then R136's conditions in their order. -/
theorem monitorTestStartsInSettledHold : Obligations.MonitorTestStartsInSettledHold := by
  intro s r rest hat
  rw [exec_monitorTest hat]
  refine ⟨fun hshort => ?_, fun a b more hops => ⟨fun hcode => ?_, fun c d hc hd => ?_⟩⟩
  · unfold doMonitorTest
    split
    · next hops =>
      rw [hops] at hshort
      simp at hshort
    · rfl
  · unfold doMonitorTest
    rw [hops]
    dsimp only
    rcases hcode with hcorner | hdirection
    · rw [cornerOf_none hcorner]
      rfl
    · rw [directionOf_none hdirection]
      split
      · next h => cases h
      · rfl
  · have hdirection : directionOf b.toNat = some d := by
      simp only [List.mem_cons, Prod.mk.injEq, List.not_mem_nil, or_false] at hd
      rcases hd with ⟨rfl, rfl⟩ | ⟨rfl, rfl⟩ <;> rfl
    have hstart : doMonitorTest r (leaveQueue s rest) = startTest r c d (leaveQueue s rest) := by
      unfold doMonitorTest
      rw [hops]
      dsimp only
      rw [hc, cornerOf_cornerCode, hdirection]
    rw [hstart, startTest, show (leaveQueue s rest).corner c = s.corner c from rfl,
      show (leaveQueue s rest).monitorOf c = s.monitorOf c from rfl]
    refine ⟨fun hnot => ?_, fun hhold hsettle => ?_, fun hhold hsettle => ?_⟩
    · rw [if_pos hnot]
      rfl
    · rw [if_neg (not_not.mpr hhold), if_pos hsettle]
      rfl
    · rw [if_neg (not_not.mpr hhold), if_neg (by omega)]
      rfl

end

end Sys2Proof.Machine

/-! Requests that read and write the banks (chapter 9): LOAD, READ_TABLE, DISCARD, and STAGED frozen while a COMMIT waits. -/

namespace Sys2Proof.Machine

/-! ### Tables by number (R148, R151) -/

theorem table_none (b : Bank) {n : Nat} (h : 6 ≤ n) : b.table n = none := by
  obtain ⟨m, rfl⟩ := Nat.exists_eq_add_of_le' h
  rfl

theorem table_setTable (b : Bank) {n : Nat} (h : n ≤ 5) (t : List Word) (k : Nat) :
    (b.setTable n t).table k = if k = n then some t else b.table k := by
  rcases Nat.lt_or_ge k 6 with hk | hk
  · interval_cases n <;> interval_cases k <;> rfl
  · rw [table_none _ hk, table_none _ hk, if_neg (by omega)]

theorem loadTable_eq (w : Word) : loadTable w = w.toNat / 8192 := by
  have hlt := w.isLt
  rw [loadTable, toNat_extract]
  omega

theorem loadOffset_eq (w : Word) : loadOffset w = w.toNat % 256 := by
  rw [loadOffset, toNat_extract]
  omega

/-- A span's words are those written, the others those there before. -/
theorem getElem?_writeSpan {t ws : List Word} {o : Nat} (h : o + ws.length ≤ t.length) (j : Nat) :
    (writeSpan t o ws)[j]? = if o ≤ j ∧ j < o + ws.length then ws[j - o]? else t[j]? := by
  have htake : (t.take o).length = o := by
    rw [List.length_take]
    omega
  unfold writeSpan
  rw [List.append_assoc]
  rcases Nat.lt_or_ge j o with hbefore | hafter
  · rw [List.getElem?_append_left (by omega), List.getElem?_take, if_pos hbefore, if_neg (by omega)]
  · rw [List.getElem?_append_right (by omega), htake]
    rcases Nat.lt_or_ge j (o + ws.length) with hin | hbeyond
    · rw [List.getElem?_append_left (by omega), if_pos ⟨hafter, hin⟩]
    · rw [List.getElem?_append_right (by omega), List.getElem?_drop, if_neg (by omega)]
      congr 1
      omega

section
variable {s : State} {r : Request}

/-! ### LOAD (R151) -/

theorem doLoad_short (h : r.operands.length ≤ 1) : doLoad r s = answer r .invalid [] s := by
  unfold doLoad
  split
  · rfl
  · rfl
  · next hops =>
    rw [hops] at h
    simp at h

/-- With words to write, the named table and the span decide. -/
theorem doLoad_of_words {w : Word} {ws : List Word} (hops : r.operands = w :: ws) (hws : ws ≠ []) (s : State) :
    doLoad r s =
      match s.tables.staged.table (w.toNat / 8192) with
      | none => answer r .invalid [] s
      | some t =>
        if w.toNat % 256 + ws.length ≤ t.length then
          answer r .ok [] (writeStaged (s.tables.staged.setTable (w.toNat / 8192) (writeSpan t (w.toNat % 256) ws)) s)
        else answer r .invalid [] s := by
  obtain ⟨x, xs, rfl⟩ := List.exists_cons_of_ne_nil hws
  unfold doLoad
  rw [hops]
  dsimp only
  rw [loadTable_eq, loadOffset_eq]
  rfl

theorem writeStaged_of_idle (b : Bank) (h : s.tables.commitPending = false) :
    writeStaged b s = { s with tables := { s.tables with staged := b } } :=
  if_neg (by rw [h]; exact Bool.false_ne_true)

theorem writeStaged_of_pending (b : Bank) (h : s.tables.commitPending = true) : writeStaged b s = s := if_pos h

/-! ### READ_TABLE (R152) -/

theorem bankOf_none (m : Tables) {w : Word} (h : 2 ≤ w.toNat) : bankOf m w = none := by
  have h0 : w ≠ 0#16 := by
    rintro rfl
    simp at h
  have h1 : w ≠ 1#16 := by
    rintro rfl
    simp at h
  rw [bankOf, if_neg h0, if_neg h1]

theorem bankOf_some (m : Tables) {w : Word} (h : w.toNat ≤ 1) :
    bankOf m w = some (if w = 0#16 then m.active else m.staged) := by
  by_cases h0 : w = 0#16
  · rw [bankOf, if_pos h0, if_pos h0]
  · have h1 : w = 1#16 := by
      have hne : w.toNat ≠ 0 := fun hz => h0 (BitVec.eq_of_toNat_eq hz)
      exact BitVec.eq_of_toNat_eq (by simpa using show w.toNat = 1 by omega)
    rw [bankOf, if_neg h0, if_pos h1, if_neg h0]

theorem doReadTable_short (h : r.operands.length < 4) : doReadTable r s = answer r .invalid [] s := by
  unfold doReadTable
  split
  · next hops =>
    rw [hops] at h
    simp at h
    omega
  · rfl

/-- With its four operands, the named table and the span decide. -/
theorem doReadTable_of_words {b n o k : Word} {more : List Word} (hops : r.operands = b :: n :: o :: k :: more) (s : State) :
    doReadTable r s =
      match (bankOf s.tables b).bind fun bank => bank.table n.toNat with
      | none => answer r .invalid [] s
      | some t =>
        if within 1 7 k.toNat && decide (o.toNat + k.toNat ≤ t.length) then
          answer r .ok ((t.drop o.toNat).take k.toNat) s
        else answer r .invalid [] s := by
  unfold doReadTable
  rw [hops]
  rfl

end

/-- A span that READ_TABLE finds INVALID. -/
theorem doReadTable_bad {s : State} {r : Request} {b n o k : Word} {more : List Word}
    (hops : r.operands = b :: n :: o :: k :: more)
    (hbad : ∀ t, (bankOf s.tables b).bind (fun bank => bank.table n.toNat) = some t →
      ¬ (1 ≤ k.toNat ∧ k.toNat ≤ 7 ∧ o.toNat + k.toNat ≤ t.length)) :
    doReadTable r s = answer r .invalid [] s := by
  rw [doReadTable_of_words hops]
  split
  · rfl
  · next t ht => exact if_neg (by simpa [within, and_assoc] using hbad t ht)

/-- Settles O38: the tables by number, then LOAD's and READ_TABLE's conditions in their order. -/
theorem loadAndReadTableKeepToTheirSpans : Obligations.LoadAndReadTableKeepToTheirSpans := by
  refine ⟨fun b => ⟨rfl, fun n => ⟨table_none b, fun k t hn => table_setTable b hn t k⟩⟩, fun s r rest hat => ?_,
    fun s r rest hat => ?_⟩
  · rw [exec_load hat]
    refine ⟨fun hshort => by rw [doLoad_short hshort], fun w ws hops hws => ?_⟩
    rw [doLoad_of_words hops hws, show (leaveQueue s rest).tables = s.tables from rfl]
    refine ⟨fun hnone => by rw [hnone], fun old hold => ?_⟩
    rw [hold]
    refine ⟨fun hlong => congrArg _ (if_neg (Nat.not_le.mpr hlong)), fun hfits hidle => ?_⟩
    refine ⟨_, length_writeSpan hfits, getElem?_writeSpan hfits, congrArg _ ((if_pos hfits).trans ?_)⟩
    rw [writeStaged_of_idle (s := leaveQueue s rest) _ hidle]
    rfl
  · rw [exec_readTable hat]
    refine ⟨fun hshort => by rw [doReadTable_short hshort], fun b n o k more hops => ?_⟩
    refine ⟨fun hb => ?_, fun hn => ?_, fun hk => ?_, fun hk => ?_, fun words hb hwords => ?_⟩
    · refine congrArg _ (doReadTable_bad hops fun t ht => ?_)
      rw [bankOf_none _ hb] at ht
      cases ht
    · refine congrArg _ (doReadTable_bad hops fun t ht => ?_)
      obtain ⟨bank, -, hbank⟩ := Option.bind_eq_some_iff.mp ht
      rw [table_none _ hn] at hbank
      cases hbank
    · refine congrArg _ (doReadTable_bad hops fun t _ hspan => ?_)
      rw [hk] at hspan
      simp at hspan
    · exact congrArg _ (doReadTable_bad hops fun t _ hspan => by omega)
    · have hnamed : (bankOf (leaveQueue s rest).tables b).bind (fun bank => bank.table n.toNat) = some words := by
        rw [show (leaveQueue s rest).tables = s.tables from rfl, bankOf_some _ hb]
        exact hwords
      refine ⟨fun hlong => ?_, fun hone hseven hfits =>
        ⟨(words.drop o.toNat).take k.toNat, ?_, fun j hj => ?_, ?_⟩⟩
      · refine congrArg _ (doReadTable_bad hops fun t ht hspan => ?_)
        cases hnamed.symm.trans ht
        omega
      · rw [List.length_take, List.length_drop]
        omega
      · rw [List.getElem?_take, if_pos hj, List.getElem?_drop]
      · rw [doReadTable_of_words hops, hnamed]
        exact congrArg _ (if_pos (by simp [within, hone, hseven, hfits]))

/-! ### DISCARD, and STAGED while a COMMIT waits (R153, R154) -/

theorem staged_of_swapTaken {m n : Tables} (h : SwapTaken m n) : n.staged = m.staged := by
  obtain rfl | ⟨-, rfl⟩ := h <;> rfl

theorem takeRequestFrame_staged (p : Port) (ws : List Word) (s : State) :
    (takeRequestFrame p ws s).tables.staged = s.tables.staged := by
  have hcancel (r : Request) (s : State) : (cancelWaiting r s).tables.staged = s.tables.staged := by
    unfold cancelWaiting
    split_ifs <;> rfl
  unfold takeRequestFrame
  split
  · rfl
  · dsimp only
    split_ifs
    · unfold abortRequests
      cases s.mgmt.executing with
      | none => simp
      | some x => simpa using hcancel x s
    · rfl
    · simp

theorem handOver_staged (p : Port) (ws : List Word) (s : State) : (handOver p ws s).tables.staged = s.tables.staged := by
  unfold handOver
  dsimp only
  split_ifs
  · simp
  · exact staged_of_swapTaken (readMark_tables p _ _ s).1
  · rfl

theorem receive_staged (p : Port) (ws : List Word) (o : Bool) (s : State) (x : Reception) :
    (receive p ws o s x).tables.staged = s.tables.staged := by
  cases x with
  | check | format => rfl
  | consumed => exact takeRequestFrame_staged p _ s
  | full => exact handOver_staged p ws (setFlag .fullDrops s)
  | accepted =>
    cases o with
    | true =>
      have hforward : (forward p ws (handOver p ws s)).tables = (handOver p ws s).tables := by simp
      exact (congrArg Tables.staged hforward).trans (handOver_staged p ws s)
    | false => exact (handOver_staged p ws (forward p ws s)).trans (by simp)

/-- With a COMMIT pending no request writes STAGED: LOAD and DISCARD find it frozen. -/
theorem request_staged {s : State} {i : Instr} {x : (BitVec 7 → Bool) × (Request → State → State)}
    (hi : requestEvent i = some x) (hpending : s.tables.commitPending = true) (r : Request) :
    (x.2 r s).tables.staged = s.tables.staged := by
  cases i with
  | nop | readTable | disableDrive | clearFlags | readState | unknownCommand => cases hi; simp
  | load =>
    cases hi
    obtain ⟨y, b, heq, -⟩ := doLoad_answers r s
    simp only [heq, writeStaged_of_pending b hpending, answer_frame]
  | discard =>
    cases hi
    simp only [doDiscard_eq, writeStaged_of_pending _ hpending, answer_frame]
  | commit =>
    cases hi
    obtain ⟨y, ws, heq⟩ | ⟨-, ⟨-, heq⟩ | ⟨-, heq⟩⟩ := doCommit_cases r s <;> simp [heq, Tables.swapped]
  | setProgramme =>
    cases hi
    obtain ⟨y, g, heq⟩ | ⟨g, heq⟩ := doSetProgramme_cases r s <;> simp [heq]
  | enableDrive =>
    cases hi
    obtain ⟨y, ws, heq⟩ | ⟨-, -, -, -, heq⟩ := doEnableDrive_cases r s <;> simp [heq]
  | monitorTest =>
    cases hi
    obtain ⟨y, ws, heq⟩ | ⟨c, d, -, -, heq⟩ := doMonitorTest_cases r s <;> simp [heq]
  | clearFaults =>
    cases hi
    obtain ⟨y, w, heq⟩ := doClearFaults_answers r s
    simp [heq]
  | resetControl =>
    cases hi
    obtain ⟨y, ws, heq⟩ | ⟨-, heq⟩ := doResetControl_cases r s <;> simp [heq, resetControl]
  | receptionCompletion | transmitCompletion | silenceTimerExpiry | computationCompletion | staggeredUpdate
  | boostTimerExpiry | currentMeasurement | supplyMeasurement | powerOnReset | resetLineReset | resetEnd =>
    cases hi

theorem exec_request_staged {s t : State} {i : Instr} {x : (BitVec 7 → Bool) × (Request → State → State)}
    (hi : requestEvent i = some x) (hpending : s.tables.commitPending = true) (h : exec i s = .next t) :
    t.tables.staged = s.tables.staged := by
  rw [exec_of_requestEvent hi] at h
  exact execRequest_keeps (P := fun t => t.tables.staged = s.tables.staged) rfl h fun r rest _ _ =>
    request_staged (s := leaveQueue s rest) hi hpending r

/-- Every command but a power-on reset keeps STAGED while a COMMIT waits. -/
theorem exec_staged {s t : State} {i : Instr} (hpending : s.tables.commitPending = true) (hi : i ≠ .powerOnReset)
    (h : exec i s = .next t) : t.tables.staged = s.tables.staged := by
  cases i with
  | receptionCompletion p ws d w o =>
    obtain rfl | ⟨-, ht⟩ := shutOut_or_runs h
    · rfl
    · cases ht
      exact (receive_staged p ws o (countAt p _ s) _).trans (by simp)
  | transmitCompletion p =>
    obtain rfl | ⟨-, h⟩ := shutOut_or_runs h
    · rfl
    · split at h <;> cases h <;> simp
  | silenceTimerExpiry src o =>
    obtain rfl | ⟨-, h⟩ := shutOut_or_runs h
    · rfl
    · split at h <;> cases h
      · rfl
      · exact staged_of_swapTaken (reevaluate_tables o (s.setSources (s.timing.sources.set src .silent)))
  | computationCompletion =>
    obtain rfl | ⟨-, h⟩ := shutOut_or_runs h
    · rfl
    · split at h <;> cases h <;> simp
  | staggeredUpdate c =>
    obtain rfl | ⟨-, h⟩ := shutOut_or_runs h
    · rfl
    · split at h <;> cases h <;> simp
  | boostTimerExpiry c =>
    obtain rfl | ⟨-, h⟩ := shutOut_or_runs h
    · rfl
    · split at h <;> cases h <;> simp
  | currentMeasurement c average =>
    obtain rfl | ⟨-, h⟩ := shutOut_or_runs h
    · rfl
    · cases h
      simp
  | supplyMeasurement v =>
    change execSupplyMeasurement v s = .next t at h
    unfold execSupplyMeasurement at h
    split_ifs at h <;> cases h
    · rfl
    · simp [keepSample]
  | powerOnReset => exact absurd rfl hi
  | resetLineReset =>
    cases h
    rfl
  | resetEnd straps =>
    simp only [exec, execResetEnd] at h
    split at h <;> cases h <;> rfl
  | nop | readTable | disableDrive | clearFlags | readState | unknownCommand | load | discard | commit | setProgramme
  | enableDrive | monitorTest | clearFaults | resetControl => exact exec_request_staged rfl hpending h

/-- Settles O40: DISCARD's copy, and the bank frozen by R154. -/
theorem discardAndTheFrozenStagedBank : Obligations.DiscardAndTheFrozenStagedBank := by
  refine ⟨fun s r rest hat hidle => ?_, fun i s t hpending hi h => exec_staged hpending hi h⟩
  rw [exec_discard hat, doDiscard_eq, writeStaged_of_idle (s := leaveQueue s rest) _ hidle]
  rfl

end Sys2Proof.Machine

/-! Requests on arrival (R177), and READ_STATE's pages (R184, R185, R193). -/

namespace Sys2Proof.Machine

/-! ### Arrival (R177) -/

theorem requestOf_eq (p : Port) (x : Word) (ops : List Word) :
    requestOf p x ops =
      { tag := x.extractLsb' 8 8, quiet := x.getLsbD 7, command := x.extractLsb' 0 7, operands := ops, port := p } := rfl

/-- A request that is no ABORT joins the queue with room for it, and is answered BUSY without. -/
theorem takeRequestFrame_other {x : Word} (p : Port) (ops : List Word) (s : State)
    (h : (x.extractLsb' 0 7).toNat ≠ 13) :
    takeRequestFrame p (x :: ops) s =
      if s.mgmt.queue.length + s.mgmt.executing.isSome.toNat < 4 then
        { s with mgmt := { s.mgmt with queue := s.mgmt.queue ++ [requestOf p x ops] } }
      else offerFrame 4 p (replyFrame s.link.nodeAddress (x.extractLsb' 8 8) .busy []) s := by
  have hcode : (requestOf p x ops).command ≠ codeAbort := fun hcode => h (congrArg BitVec.toNat hcode)
  exact if_neg hcode

/-- Settles O35: the payload, then the room in the queue. -/
theorem requestsQueueOrAreBusy : Obligations.RequestsQueueOrAreBusy := by
  intro p ws d w o s hrun hcheck hformat hkind hident counted
  have hexec := exec_receptionCompletion_consumed o hrun (judgeReception_consumed (p := p) hcheck hformat hkind hident)
  refine ⟨fun hempty => by rw [hexec, hempty]; rfl, fun x ops hpayload hother => ?_⟩
  rw [hexec, hpayload, takeRequestFrame_other p ops _ hother]
  exact ⟨fun hroom => congrArg _ (if_pos hroom), fun hfull => congrArg _ (if_neg (Nat.not_lt.mpr hfull))⟩

/-! ### Fields of a number's word (R192) -/

section
variable {n : Nat} (h : n < 65536)
include h

theorem natWord_toNat : (natWord n).toNat = n := by
  rw [natWord, BitVec.toNat_ofNat]
  exact Nat.mod_eq_of_lt h

theorem natWord_field (start len : Nat) : ((natWord n).extractLsb' start len).toNat = n / 2 ^ start % 2 ^ len := by
  rw [toNat_extract, natWord_toNat h]

theorem natWord_bit (i : Nat) : (natWord n).getLsbD i = decide (n / 2 ^ i % 2 = 1) := by
  rw [getLsbD_eq_decide, natWord_toNat h]

/-- A field that the word does not assign. -/
theorem natWord_field_zero {start len : Nat} (hzero : n / 2 ^ start % 2 ^ len = 0) :
    (natWord n).extractLsb' start len = 0#len :=
  BitVec.eq_of_toNat_eq (by rw [natWord_field h, hzero, BitVec.toNat_ofNat, Nat.zero_mod])

end

theorem decide_toNat_eq (b : Bool) : decide (b.toNat = 1) = b := by cases b <;> rfl

theorem readPage_eq (w : Word) : readPage w = w.toNat % 256 := by
  rw [readPage, toNat_extract]
  omega

/-! ### READ_STATE by its selector (R184) -/

section
variable {s : State} {r : Request} {a b c : Word} {more : List Word}

theorem doReadState_short (h : r.operands.length < 3) : doReadState r s = answer r .invalid [] s := by
  unfold doReadState
  split
  · next hops =>
    rw [hops] at h
    simp at h
    omega
  · rfl

/-- All selectors but COUNTERS answer a page, or INVALID where there is none. -/
theorem doReadState_page (hops : r.operands = a :: b :: c :: more) (ha : a ≠ 4#16) :
    doReadState r s =
      match statePage s a.toNat b.toNat (c.toNat % 256) with
      | none => answer r .invalid [] s
      | some data => answer r .ok data s := by
  unfold doReadState
  rw [hops]
  dsimp only
  rw [if_neg ha, readPage_eq]
  rfl

theorem doReadState_some {data : List Word} (hops : r.operands = a :: b :: c :: more) (ha : a ≠ 4#16)
    (hpage : statePage s a.toNat b.toNat (c.toNat % 256) = some data) : doReadState r s = answer r .ok data s := by
  rw [doReadState_page hops ha, hpage]

theorem doReadState_none (hops : r.operands = a :: b :: c :: more) (ha : a ≠ 4#16)
    (hpage : statePage s a.toNat b.toNat (c.toNat % 256) = none) : doReadState r s = answer r .invalid [] s := by
  rw [doReadState_page hops ha, hpage]

/-- COUNTERS acts on the port named, and is INVALID where none is. -/
theorem doReadState_counters (hops : r.operands = 4#16 :: b :: c :: more) :
    doReadState r s =
      match portOf b.toNat with
      | none => answer r .invalid [] s
      | some p => readCounters r p (c.toNat % 256) (c.getLsbD 15) s := by
  unfold doReadState
  rw [hops]
  dsimp only
  rw [if_pos rfl, readPage_eq]
  rfl

end

/-! ### COUNTERS (R185) -/

theorem portOf_none {n : Nat} (h : n = 0 ∨ 3 ≤ n) : portOf n = none := by
  rcases h with rfl | h
  · rfl
  · obtain ⟨m, rfl⟩ := Nat.exists_eq_add_of_le' h
    rfl

theorem readCounters_none (r : Request) (p : Port) {page : Nat} (h : 3 ≤ page) (clear : Bool) (s : State) :
    readCounters r p page clear s = answer r .invalid [] s := by
  obtain ⟨m, rfl⟩ := Nat.exists_eq_add_of_le' h
  rfl

theorem captureCounters_eq (p : Port) (clear : Bool) (s : State) :
    captureCounters p clear s =
      (if clear then recount s p ⟨0, 0, 0, 0, 0, 0, 0, 0, 0⟩ else s).mapCapture p (s.port p).counters := by
  cases clear <;> rfl

/-- What page 0 answers once the counters are captured: the queues of the port as they stand. -/
theorem pageCounters0_capture (p : Port) (clear : Bool) (s : State) :
    pageCounters0 (captureCounters p clear s) p =
      natWord ((s.port p).fifo.length * 4096 + (s.port p).insert.length * 512 + (s.port p).waitCount * 128 +
        s.link.nodeAddress.toNat) ::
        (countWords (s.port p).counters.received ++ countWords (s.port p).counters.accepted ++
          countWords (s.port p).counters.consumed) := by
  have hcapture : (captureCounters p clear s).mgmt.captures.get p = (s.port p).counters := by
    cases clear <;> exact PerPort.get_set_same _ _ _
  have hport : ((captureCounters p clear s).port p).fifo = (s.port p).fifo ∧
      ((captureCounters p clear s).port p).insert = (s.port p).insert ∧
      ((captureCounters p clear s).port p).waitCount = (s.port p).waitCount := by
    cases clear with
    | false => exact ⟨rfl, rfl, rfl⟩
    | true => cases p <;> exact ⟨rfl, rfl, rfl⟩
  obtain ⟨hfifo, hinsert, hwait⟩ := hport
  rw [pageCounters0, hcapture, hfifo, hinsert, hwait, show (captureCounters p clear s).link.nodeAddress = s.link.nodeAddress by simp]
  rfl

/-- The first word of page 0, its fields within the bounds of the queues. -/
theorem countersWord_fields {f i k : Nat} (node : BitVec 6) (hf : f ≤ 8) (hi : i ≤ 4) (hk : k ≤ 3) :
    let w := natWord (f * 4096 + i * 512 + k * 128 + node.toNat)
    (w.extractLsb' 12 4).toNat = f ∧ (w.extractLsb' 9 3).toNat = i ∧ (w.extractLsb' 7 2).toNat = k ∧
      w.getLsbD 6 = false ∧ w.extractLsb' 0 6 = node := by
  intro w
  have hnode := node.isLt
  have hlt : f * 4096 + i * 512 + k * 128 + node.toNat < 65536 := by omega
  refine ⟨?_, ?_, ?_, ?_, BitVec.eq_of_toNat_eq ?_⟩
  · rw [natWord_field hlt]
    omega
  · rw [natWord_field hlt]
    omega
  · rw [natWord_field hlt]
    omega
  · rw [natWord_bit hlt, decide_eq_false_iff_not]
    omega
  · rw [natWord_field hlt]
    omega

/-- Settles O50: the port by its number, the page by its, page 0 captured first. -/
theorem counterPagesReadOneCapture : Obligations.CounterPagesReadOneCapture := by
  intro s r rest b c more hat hops bad two page clear
  refine ⟨fun hport => ?_, fun p hp => ?_⟩
  · change exec .readState s = _
    rw [exec_readState hat, doReadState_counters hops, portOf_none hport]
  · have hport : portOf b.toNat = some p := by
      simp only [List.mem_cons, Prod.mk.injEq, List.not_mem_nil, or_false] at hp
      rcases hp with ⟨rfl, rfl⟩ | ⟨rfl, rfl⟩ <;> rfl
    have hread : exec .readState s = .next (readCounters r p page clear (leaveQueue s rest)) := by
      rw [exec_readState hat, doReadState_counters hops, hport]
    refine ⟨fun hpage => ⟨captureCounters p clear (leaveQueue s rest), _, ?_, captureCounters_eq p clear _,
      fun hfifo hinsert hwait => countersWord_fields s.link.nodeAddress hfifo hinsert hwait⟩, fun hpage hclear => ?_,
      fun hpage hclear => ?_, fun hpage hclear => ?_, fun hpage => ?_⟩
    · rw [hread, hpage, readCounters, pageCounters0_capture]
      rfl
    · change exec .readState s = _
      rw [hread, hclear]
      rcases hpage with hpage | hpage <;> rw [hpage] <;> rfl
    · rw [hread, hclear, hpage]
      rfl
    · rw [hread, hclear, hpage]
      rfl
    · change exec .readState s = _
      rw [hread, readCounters_none r p hpage]

end Sys2Proof.Machine

/-! READ_STATE's pages of CORNERS, SIGNALS, PREVIEW and CYCLE (R36, R91, R128, R146, R193). -/

namespace Sys2Proof.Machine

/-! ### Packed bits -/

theorem bitsWord_three (a b c : Bool) :
    (bitsWord [a, b, c]).getLsbD 0 = a ∧ (bitsWord [a, b, c]).getLsbD 1 = b ∧ (bitsWord [a, b, c]).getLsbD 2 = c ∧
      (bitsWord [a, b, c]).extractLsb' 3 13 = 0#13 := by
  cases a <;> cases b <;> cases c <;> decide

/-! ### CYCLE -/

theorem isAlive_iff (v : SourceState) : v.isAlive = true ↔ v ≠ .silent := by cases v <;> simp [SourceState.isAlive]

/-- The second word of CYCLE page 0. -/
theorem cycleWord_fields (a b c h p v k : Bool) (n : Option Source) :
    let w := natWord (a.toNat + b.toNat * 2 + selectedCode n * 4 + c.toNat * 16 + h.toNat * 32 + p.toNat * 64 +
      v.toNat * 128 + k.toNat * 256)
    w.getLsbD 0 = a ∧ w.getLsbD 1 = b ∧ (w.extractLsb' 2 2).toNat = selectedCode n ∧ w.getLsbD 4 = c ∧
      w.getLsbD 5 = h ∧ w.getLsbD 6 = p ∧ w.getLsbD 7 = v ∧ w.getLsbD 8 = k ∧ w.extractLsb' 9 7 = 0#7 := by
  intro w
  have ha := Bool.toNat_le a
  have hb := Bool.toNat_le b
  have hc := Bool.toNat_le c
  have hh := Bool.toNat_le h
  have hp := Bool.toNat_le p
  have hv := Bool.toNat_le v
  have hk := Bool.toNat_le k
  have hn : selectedCode n ≤ 2 := by
    rcases n with _ | src
    · decide
    · cases src <;> decide
  have hlt : a.toNat + b.toNat * 2 + selectedCode n * 4 + c.toNat * 16 + h.toNat * 32 + p.toNat * 64 + v.toNat * 128 +
      k.toNat * 256 < 65536 := by omega
  have hbit (i : Nat) (x : Bool) (hx : (a.toNat + b.toNat * 2 + selectedCode n * 4 + c.toNat * 16 + h.toNat * 32 +
      p.toNat * 64 + v.toNat * 128 + k.toNat * 256) / 2 ^ i % 2 = x.toNat) : w.getLsbD i = x := by
    rw [natWord_bit hlt, hx, decide_toNat_eq]
  refine ⟨hbit 0 a ?_, hbit 1 b ?_, ?_, hbit 4 c ?_, hbit 5 h ?_, hbit 6 p ?_, hbit 7 v ?_, hbit 8 k ?_,
    natWord_field_zero hlt ?_⟩
  case refine_3 =>
    rw [natWord_field hlt]
    omega
  all_goals omega

/-! ### CORNERS -/

section
variable (s : State) (k : Corner)

theorem cornerCode_le (k : Corner) : cornerCode k ≤ 3 := by cases k <;> decide

/-- The three pages of a corner. -/
theorem pageCorners_corner {page i : Nat} (hi : i ≤ 2) (h : page = 3 * cornerCode k + i) :
    pageCorners s page = some (if i = 0 then pageMotion s k else if i = 1 then pageDrive s k else pageMonitor s k) := by
  have hle := cornerCode_le k
  have hdiv : page / 3 = cornerCode k := by omega
  have hmod : page % 3 = i := by omega
  rw [pageCorners, if_neg (by omega), hdiv, cornerOf_cornerCode, hmod]
  rfl

theorem pageCorners_none {page : Nat} (h : 13 ≤ page) : pageCorners s page = none := by
  rw [pageCorners, if_neg (by omega), cornerOf_none (by omega)]
  rfl

theorem pageCorners_supervision : pageCorners s 12 = some (pageSupervision s) := rfl

/-- The pending list in one word, at most two corners on it. -/
theorem waitingWord_fields {cs : List Corner} (h : cs.length ≤ 2) :
    ((waitingWord cs).extractLsb' 13 3).toNat = cs.length ∧ (waitingWord cs).extractLsb' 4 9 = 0#9 ∧
      (∀ k, cs[0]? = some k → ((waitingWord cs).extractLsb' 2 2).toNat = cornerCode k) ∧
      (∀ k, cs[1]? = some k → ((waitingWord cs).extractLsb' 0 2).toNat = cornerCode k) := by
  have hcode (x : Option Corner) : (x.map cornerCode).getD 0 ≤ 3 := by
    cases x with
    | none => exact Nat.zero_le 3
    | some k => exact cornerCode_le k
  have h0 := hcode cs[0]?
  have h1 := hcode cs[1]?
  have hlt : cs.length * 8192 + ((cs[0]?.map cornerCode).getD 0) * 4 + (cs[1]?.map cornerCode).getD 0 < 65536 := by omega
  refine ⟨?_, natWord_field_zero hlt (by omega), fun k hk => ?_, fun k hk => ?_⟩
  · rw [waitingWord, natWord_field hlt]
    omega
  · have hvalue : (cs[0]?.map cornerCode).getD 0 = cornerCode k := by rw [hk]; rfl
    rw [waitingWord, natWord_field hlt]
    omega
  · have hvalue : (cs[1]?.map cornerCode).getD 0 = cornerCode k := by rw [hk]; rfl
    rw [waitingWord, natWord_field hlt]
    omega

theorem gateWord_fields (isOpen : Bool) (x : CloseCause) :
    let w := natWord (isOpen.toNat * 32768 + x.code)
    w.getLsbD 15 = isOpen ∧ w.extractLsb' 2 13 = 0#13 ∧ (w.extractLsb' 0 2).toNat = x.code := by
  cases isOpen <;> cases x <;> decide

end

/-! ### SIGNALS -/

theorem signals_index (g : Signal) : signals[g.index]? = some g := by cases g <;> rfl

theorem natWord_word (w : Word) : natWord w.toNat = w := BitVec.eq_of_toNat_eq (natWord_toNat w.isLt)

theorem pageSignals_index (s : State) {b : Word} {g : Signal} (h : b.toNat = g.index) :
    pageSignals s b.toNat = some
      [b, natWord (if s.tables.row g = .unmapped then 0 else 1), intWord (s.capture.live.get g).value,
        natWord (s.capture.live.get g).age, natWord (s.capture.live.get g).clamps,
        s.capture.short.extractLsb' 16 16, s.capture.short.extractLsb' 0 16] := by
  have hbit : bitsWord [decide (s.tables.row g ≠ .unmapped)] = natWord (if s.tables.row g = .unmapped then 0 else 1) := by
    by_cases hrow : s.tables.row g = .unmapped <;> simp [bitsWord, hrow]
  unfold pageSignals
  rw [natWord_word, h, signals_index]
  simp only [Option.map_some, hbit]
  rfl

theorem pageSignals_none (s : State) {n : Nat} (h : 9 ≤ n) : pageSignals s n = none := by
  unfold pageSignals
  rw [List.getElem?_eq_none (by exact h)]
  rfl

/-! ### PREVIEW -/

theorem pagePreview_none (s : State) (n : Nat) {page : Nat} (h : 4 ≤ page) : pagePreview s n page = none := by
  obtain ⟨m, rfl⟩ := Nat.exists_eq_add_of_le' h
  rfl

theorem entryBits_le (p : PreviewEntry) : entryBits p ≤ 7 := by
  have hside := Bool.toNat_le (p.side == .right)
  have hkind := Bool.toNat_le (p.kind == .dip)
  have hopen := Bool.toNat_le p.isOpen
  unfold entryBits
  omega

/-- The first word of PREVIEW page 2: three bits for each entry shown, the queue's count. -/
theorem entriesWord_fields {shown : List PreviewEntry} {n : Nat} (hn : n ≤ 16) :
    ((natWord (entriesBits shown + n)).extractLsb' 0 5).toNat = n ∧ (natWord (entriesBits shown + n)).extractLsb' 5 2 = 0#2 ∧
      ∀ j place, (j, place) ∈ [(0, 13), (1, 10), (2, 7)] →
        (shown[j]? = none → (natWord (entriesBits shown + n)).extractLsb' place 3 = 0#3) ∧
        (∀ e, shown[j]? = some e →
          ((natWord (entriesBits shown + n)).getLsbD (place + 2) = true ↔ e.side = .right) ∧
          ((natWord (entriesBits shown + n)).getLsbD (place + 1) = true ↔ e.kind = .dip) ∧
          (natWord (entriesBits shown + n)).getLsbD place = e.isOpen) := by
  have hbits (x : Option PreviewEntry) : (x.map entryBits).getD 0 ≤ 7 := by
    cases x with
    | none => exact Nat.zero_le 7
    | some p => exact entryBits_le p
  have h0 := hbits shown[0]?
  have h1 := hbits shown[1]?
  have h2 := hbits shown[2]?
  have hlt : entriesBits shown + n < 65536 := by
    unfold entriesBits
    omega
  refine ⟨?_, natWord_field_zero hlt ?_, fun j place hplace => ?_⟩
  · rw [natWord_field hlt]
    unfold entriesBits
    omega
  · unfold entriesBits
    omega
  · have hfield : (entriesBits shown + n) / 2 ^ place % 8 = (shown[j]?.map entryBits).getD 0 := by
      simp only [List.mem_cons, Prod.mk.injEq, List.not_mem_nil, or_false] at hplace
      unfold entriesBits
      rcases hplace with ⟨rfl, rfl⟩ | ⟨rfl, rfl⟩ | ⟨rfl, rfl⟩ <;> omega
    refine ⟨fun hnone => natWord_field_zero hlt ?_, fun e he => ?_⟩
    · rw [hnone] at hfield
      exact hfield
    · rw [he] at hfield
      have hvalue : (entriesBits shown + n) / 2 ^ place % 8 =
          (e.side == .right).toNat * 4 + (e.kind == .dip).toNat * 2 + e.isOpen.toNat := hfield
      have hside := Bool.toNat_le (e.side == .right)
      have hkind := Bool.toNat_le (e.kind == .dip)
      have hopen := Bool.toNat_le e.isOpen
      have hbit (i : Nat) : (natWord (entriesBits shown + n)).getLsbD (place + i) =
          decide ((entriesBits shown + n) / 2 ^ place / 2 ^ i % 2 = 1) := by
        rw [natWord_bit hlt, Nat.pow_add, Nat.div_div_eq_div_mul]
      refine ⟨?_, ?_, ?_⟩
      · rw [hbit 2, decide_eq_true_iff, ← beq_iff_eq (a := e.side), ← Bool.toNat_eq_one]
        omega
      · rw [hbit 1, decide_eq_true_iff, ← beq_iff_eq (a := e.kind), ← Bool.toNat_eq_one]
        omega
      · rw [show place = place + 0 from rfl, hbit 0, ← decide_toNat_eq e.isOpen]
        refine decide_eq_decide.mpr ?_
        omega

/-! ### The pages of each selector (R184) -/

section
variable {s : State} {r : Request} {rest : List Request} {a b c : Word} {more : List Word}
  (hat : AtExecution s r rest codeReadState) (hops : r.operands = a :: b :: c :: more) (ha : a ≠ 4#16)
include hat hops ha

theorem exec_readState_some {data : List Word} (hpage : statePage s a.toNat b.toNat (c.toNat % 256) = some data) :
    exec .readState s = .next (answer r .ok data (leaveQueue s rest)) := by
  rw [exec_readState hat, doReadState_some (s := leaveQueue s rest) hops ha hpage]

theorem exec_readState_none (hpage : statePage s a.toNat b.toNat (c.toNat % 256) = none) :
    exec .readState s = .next (answer r .invalid [] (leaveQueue s rest)) := by
  rw [exec_readState hat, doReadState_none (s := leaveQueue s rest) hops ha hpage]

/-- Every selector but COUNTERS only answers. -/
theorem exec_readState_answers :
    ∃ x data, exec .readState s = .next (answer r x data (leaveQueue s rest)) := by
  cases hpage : statePage s a.toNat b.toNat (c.toNat % 256) with
  | none => exact ⟨_, _, exec_readState_none hat hops ha hpage⟩
  | some data => exact ⟨_, _, exec_readState_some hat hops ha hpage⟩

end

theorem statePage_none (s : State) {n : Nat} (h : 5 ≤ n) (b page : Nat) : statePage s n b page = none := by
  obtain ⟨m, rfl⟩ := Nat.exists_eq_add_of_le' h
  rfl

theorem pageCycle_none (s : State) {page : Nat} (h : 2 ≤ page) : pageCycle s page = none := by
  obtain ⟨m, rfl⟩ := Nat.exists_eq_add_of_le' h
  rfl

/-- Settles O49: the selector and the page decide, and each page is the words of R193. -/
theorem readStateAnswersItsPages : Obligations.ReadStateAnswersItsPages := by
  constructor
  · intro s r rest hat
    refine ⟨fun hshort => by rw [exec_readState hat, doReadState_short hshort], fun a b c more hops => ?_⟩
    refine ⟨fun ha => ?_, fun ha => exec_readState_answers hat hops ha, ?_, ?_, ?_⟩
    · refine exec_readState_none hat hops ?_ (statePage_none s ha _ _)
      rintro rfl
      simp at ha
    · rintro rfl hpage
      obtain ⟨h0, h1, h2, h4, h5, h6, h7, h8, h9⟩ := cycleWord_fields s.timing.sources.a.isAlive
        s.timing.sources.b.isAlive s.engine.computing.isSome s.timing.holdRequest (s.timing.reportPort == .port2)
        s.tables.activeValid s.timing.baseline.isSome s.timing.selected
      refine ⟨_, exec_readState_some hat hops (by decide) (by rw [hpage]; rfl), ?_, ?_, h2, h4, h5, ?_, h7, h8, h9⟩
      · rw [h0, isAlive_iff]
      · rw [h1, isAlive_iff]
      · rw [h6, beq_iff_eq]
    · rintro rfl hpage
      refine exec_readState_some hat hops (by decide) ?_
      rw [hpage]
      cases hprogramme : s.engine.programme <;> simp [statePage, pageCycle, pageSchedule, countWords, hprogramme, Programme.code]
    · rintro rfl hpage
      exact exec_readState_none hat hops (by decide) (pageCycle_none s hpage)
  · intro s r rest a b c more hat hops answers page
    refine ⟨?_, ?_, ?_, ?_, ?_, ?_, ?_, ?_, ?_, ?_⟩
    · rintro rfl k
      refine ⟨fun hpage => ?_, fun hpage => ?_, fun hpage => ?_⟩
      · obtain ⟨h0, h1, h2, h3⟩ := bitsWord_three (s.engine.est.get k).seeded (s.engine.est.get k).lastTravelLost
          (s.engine.est.get k).lastSkyLost
        exact ⟨_, exec_readState_some hat hops (by decide) (pageCorners_corner s k (i := 0) (by decide) hpage), h0, h1, h2, h3⟩
      · refine (exec_readState_some hat hops (by decide) (pageCorners_corner s k (i := 1) (by decide) hpage)).trans ?_
        cases hsource : (s.engine.results.get k).source <;> cases hstate : (s.corner k).state <;>
          simp [pageDrive, hsource, hstate, TargetSource.code, DriveState.code]
      · refine (exec_readState_some hat hops (by decide) (pageCorners_corner s k (i := 2) (by decide) hpage)).trans ?_
        cases hcause : (s.corner k).cause <;> simp [pageMonitor, countWords, hcause, FaultCause.code]
    · rintro rfl hpage hwaiting
      obtain ⟨hcount, hzero, hfirst, hsecond⟩ := waitingWord_fields hwaiting
      obtain ⟨hopen, hgate, hcause⟩ := gateWord_fields s.gate.isOpen s.gate.cause
      refine ⟨waitingWord s.drive.waiting, _, ?_, hcount, hzero, hfirst, hsecond, hopen, hgate, hcause.trans ?_⟩
      · have hsupervision : statePage s (0#16).toNat b.toNat page = some (pageSupervision s) := by
          rw [hpage]
          rfl
        refine (exec_readState_some hat hops (by decide) hsupervision).trans ?_
        cases hstaggered : s.tables.active.isStaggered <;> cases hlow : s.supply.low <;>
            simp [pageSupervision, hstaggered, hlow, bitsWord]
      · cases s.gate.cause <;> rfl
    · rintro rfl hpage
      exact exec_readState_none hat hops (by decide) (pageCorners_none s hpage)
    · rintro rfl hpage
      refine ⟨fun g hg => exec_readState_some hat hops (by decide) ?_, fun hb => exec_readState_none hat hops (by decide) ?_⟩
      · exact (if_pos hpage).trans (pageSignals_index s hg)
      · exact (if_pos hpage).trans (pageSignals_none s hb)
    · rintro rfl hpage
      obtain ⟨h0, h1, h2, h3⟩ := bitsWord_three (s.engine.sides.left == .inEvent) (s.engine.sides.right == .inEvent)
        s.engine.previewActive
      refine ⟨_, exec_readState_some hat hops (by decide) (by rw [show c.toNat % 256 = 0 from hpage]; rfl), ?_, ?_, h2, h3⟩
      · rw [h0, beq_iff_eq]
      · rw [h1, beq_iff_eq]
    · rintro rfl hpage
      exact exec_readState_some hat hops (by decide) (by rw [show c.toNat % 256 = 1 from hpage]; rfl)
    · rintro rfl hpage
      exact exec_readState_none hat hops (by decide) (if_neg (by change ¬ page = 0; omega))
    · rintro rfl hpage hb
      refine exec_readState_none hat hops (by decide) ?_
      rcases hpage with hpage | hpage <;> rw [show c.toNat % 256 = _ from hpage] <;> exact if_neg (Nat.not_le.mpr hb)
    · rintro rfl hpage
      exact exec_readState_none hat hops (by decide) (pagePreview_none s _ hpage)
    · rintro rfl hb
      refine ⟨fun hpage hqueue => ?_, fun hpage => exec_readState_some hat hops (by decide) ?_⟩
      · obtain ⟨hcount, hzero, hentries⟩ := entriesWord_fields (shown := entriesFrom s b.toNat) hqueue
        refine ⟨_, exec_readState_some hat hops (by decide) ?_, hcount, hzero, hentries⟩
        rw [show c.toNat % 256 = 2 from hpage]
        exact if_pos hb
      · rw [show c.toNat % 256 = 3 from hpage]
        exact if_pos hb

end Sys2Proof.Machine

/-! The COMMIT validation walk (R149, R150, R155, R156): the checks word by word, the first word that fails, and what a bank
that passes has in its fields. -/

namespace Sys2Proof.Machine

/-! ### The checks of each table, as the statements read them -/

section
variable (b a : Bank) (gateOpen : Bool) (o : Nat)

theorem wordPasses_t0 : WordPasses b a gateOpen 0 o ↔ checkT0 b.t0 o = true := by
  simp only [WordPasses, LowerWordPasses, UpperWordPasses, true_implies, OfNat.zero_ne_ofNat, zero_ne_one, false_implies, and_true]
  unfold checkT0
  rw [BitVec.msb_eq_getLsbD_last, BitVec.msb_eq_getLsbD_last]
  split
  · next h =>
    simp only [h, true_implies, zero_ne_one, false_implies, and_true]
    cases (b.t0.getD o 0#16).getLsbD 15 <;> simp
  · next h =>
    simp only [h, true_implies, one_ne_zero, false_implies, true_and]
    cases (b.t0.getD (o - 1) 0#16).getLsbD 15 <;> simp [within, Among]
  · next h0 h1 =>
    have hother : ¬ o % 4 = 0 ∧ ¬ o % 4 = 1 := ⟨h0, h1⟩
    simp only [hother, false_implies, and_self]

theorem wordPasses_t1 (ho : o < 8) : WordPasses b a gateOpen 1 o ↔ checkT1 b.t1 a.t1 gateOpen o = true := by
  interval_cases o <;> cases gateOpen <;>
    simp [WordPasses, LowerWordPasses, UpperWordPasses, checkT1, within, Among, and_assoc]

theorem wordPasses_t2 : WordPasses b a gateOpen 2 o ↔ checkT2 b.t2 o = true := by
  have hlower : WordPasses b a gateOpen 2 o ↔
      (o % 4 = 0 → Among 0 9000 (wordAt b.t2 o) ∧ (o % 32 ≠ 0 → wordAt b.t2 (o - 4) < wordAt b.t2 o)) ∧
        (o % 4 = 1 ∨ o % 4 = 2 → Among 0 20000 (wordAt b.t2 o)) ∧ (o % 4 = 3 → Among 0 12000 (wordAt b.t2 o)) := by
    simp [WordPasses, LowerWordPasses, UpperWordPasses]
  rw [hlower]
  unfold checkT2
  dsimp only
  split
  · next h =>
    by_cases hfirst : o % 32 = 0 <;> simp [h, hfirst, within, Among]
  · next h => simp [h, within, Among]
  · next h0 h3 =>
    have hmiddle : o % 4 = 1 ∨ o % 4 = 2 := by
      have hne : o % 4 ≠ 0 ∧ o % 4 ≠ 3 := ⟨h0, h3⟩
      omega
    rcases hmiddle with h | h <;> simp [h, within, Among]

theorem wordPasses_t3 : WordPasses b a gateOpen 3 o ↔ checkT3 b.t3 o = true := by
  have hlower : WordPasses b a gateOpen 3 o ↔
      (o % 80 < 8 → Among 0 2000 (wordAt b.t3 o) ∧ (o % 80 ≠ 0 → wordAt b.t3 (o - 1) < wordAt b.t3 o)) ∧
        (8 ≤ o % 80 → o % 80 < 16 →
          Among 0 12000 (wordAt b.t3 o) ∧ (o % 80 ≠ 8 → wordAt b.t3 (o - 1) < wordAt b.t3 o)) ∧
        (16 ≤ o % 80 → Among 0 2000 (wordAt b.t3 o)) := by
    simp [WordPasses, LowerWordPasses, UpperWordPasses]
  rw [hlower]
  unfold checkT3
  dsimp only
  rcases Nat.lt_or_ge (o % 80) 8 with h8 | h8
  · have hrest : ¬ 8 ≤ o % 80 ∧ ¬ 16 ≤ o % 80 := by omega
    by_cases hfirst : o % 80 = 0 <;> simp [h8, hrest, hfirst, within, Among]
  · rcases Nat.lt_or_ge (o % 80) 16 with h16 | h16
    · have hrest : ¬ o % 80 < 8 ∧ ¬ 16 ≤ o % 80 := by omega
      by_cases hfirst : o % 80 = 8 <;> simp [h8, h16, hrest, hfirst, within, Among]
    · have hrest : ¬ o % 80 < 8 ∧ ¬ o % 80 < 16 := by omega
      simp [h8, h16, hrest, within, Among]

theorem wordPasses_t4 (ho : o < 20) : WordPasses b a gateOpen 4 o ↔ checkT4 b.t4 o = true := by
  interval_cases o <;> simp [WordPasses, LowerWordPasses, UpperWordPasses, checkT4, within, Among]

theorem wordPasses_t5 (ho : o < 16) : WordPasses b a gateOpen 5 o ↔ checkT5 b.t5 o = true := by
  interval_cases o <;> simp [WordPasses, LowerWordPasses, UpperWordPasses, checkT5, within, Among]

/-- The check made at a word, by its table. -/
def checkAt (b a : Bank) (gateOpen : Bool) (n o : Nat) : Bool :=
  match n with
  | 0 => checkT0 b.t0 o
  | 1 => checkT1 b.t1 a.t1 gateOpen o
  | 2 => checkT2 b.t2 o
  | 3 => checkT3 b.t3 o
  | 4 => checkT4 b.t4 o
  | 5 => checkT5 b.t5 o
  | _ => true

theorem tableSize_pos {n o : Nat} (h : o < tableSize n) : n < 6 := by
  by_contra hn
  obtain ⟨m, rfl⟩ := Nat.exists_eq_add_of_le' (Nat.not_lt.mp hn)
  exact absurd h (Nat.not_lt_zero o)

theorem wordPasses_iff {n o : Nat} (h : o < tableSize n) :
    WordPasses b a gateOpen n o ↔ checkAt b a gateOpen n o = true := by
  have hn := tableSize_pos h
  interval_cases n
  · exact wordPasses_t0 b a gateOpen o
  · exact wordPasses_t1 b a gateOpen o h
  · exact wordPasses_t2 b a gateOpen o
  · exact wordPasses_t3 b a gateOpen o
  · exact wordPasses_t4 b a gateOpen o h
  · exact wordPasses_t5 b a gateOpen o h

end

/-! ### The first word that fails (R155) -/

section
variable {b a : Bank} {gateOpen : Bool} {n o : Nat}

theorem validate_none_iff :
    validate b a gateOpen = none ↔ ∀ n o, o < tableSize n → checkAt b a gateOpen n o = true := by
  rw [validate_eq_none_iff]
  constructor
  · rintro ⟨h0, h1, h2, h3, h4, h5⟩ n o ho
    have hn := tableSize_pos ho
    interval_cases n
    exacts [h0 o ho, h1 o ho, h2 o ho, h3 o ho, h4 o ho, h5 o ho]
  · exact fun h => ⟨h 0, h 1, h 2, h 3, h 4, h 5⟩

/-- The word at which the walk stops is the first that fails. -/
theorem validate_first (ho : o < tableSize n) (hfails : checkAt b a gateOpen n o = false)
    (hearlier : ∀ m q, q < tableSize m → m < n ∨ (m = n ∧ q < o) → checkAt b a gateOpen m q = true) :
    validate b a gateOpen = some (n, o) := by
  have hbefore (m : Nat) (hm : m < n) : firstBad (checkAt b a gateOpen m) (tableSize m) = none :=
    (firstBad_eq_none_iff _ _).mpr fun q hq => hearlier m q hq (.inl hm)
  have hhere : firstBad (checkAt b a gateOpen n) (tableSize n) = some o :=
    (firstBad_eq_some_iff _ _ _).mpr ⟨ho, hfails, fun q hq => hearlier n q (hq.trans ho) (.inr ⟨rfl, hq⟩)⟩
  have hwalk : validate b a gateOpen =
      (((firstBad (checkAt b a gateOpen 0) (tableSize 0)).map fun o => (0, o)) <|>
      ((firstBad (checkAt b a gateOpen 1) (tableSize 1)).map fun o => (1, o)) <|>
      ((firstBad (checkAt b a gateOpen 2) (tableSize 2)).map fun o => (2, o)) <|>
      ((firstBad (checkAt b a gateOpen 3) (tableSize 3)).map fun o => (3, o)) <|>
      ((firstBad (checkAt b a gateOpen 4) (tableSize 4)).map fun o => (4, o)) <|>
      ((firstBad (checkAt b a gateOpen 5) (tableSize 5)).map fun o => (5, o))) := rfl
  rw [hwalk]
  have hn := tableSize_pos ho
  interval_cases n
  · rw [hhere]
    rfl
  · rw [hbefore 0 (by decide), hhere]
    rfl
  · rw [hbefore 0 (by decide), hbefore 1 (by decide), hhere]
    rfl
  · rw [hbefore 0 (by decide), hbefore 1 (by decide), hbefore 2 (by decide), hhere]
    rfl
  · rw [hbefore 0 (by decide), hbefore 1 (by decide), hbefore 2 (by decide), hbefore 3 (by decide), hhere]
    rfl
  · rw [hbefore 0 (by decide), hbefore 1 (by decide), hbefore 2 (by decide), hbefore 3 (by decide),
      hbefore 4 (by decide), hhere]
    rfl

/-- Where a word fails there is a first one that fails. -/
theorem exists_first_failing (h : ∃ n o, o < tableSize n ∧ checkAt b a gateOpen n o = false) :
    ∃ n o, o < tableSize n ∧ checkAt b a gateOpen n o = false ∧
      ∀ m q, q < tableSize m → m < n ∨ (m = n ∧ q < o) → checkAt b a gateOpen m q = true := by
  classical
  have hword := Nat.find_spec h
  refine ⟨Nat.find h, Nat.find hword, (Nat.find_spec hword).1, (Nat.find_spec hword).2, fun m q hq hbefore => ?_⟩
  by_contra hfails
  rw [Bool.not_eq_true] at hfails
  rcases hbefore with hm | ⟨rfl, hqo⟩
  · exact Nat.find_min h hm ⟨q, hq, hfails⟩
  · exact Nat.find_min hword hqo ⟨hq, hfails⟩

theorem validate_some_iff :
    validate b a gateOpen = some (n, o) ↔
      o < tableSize n ∧ checkAt b a gateOpen n o = false ∧
        ∀ m q, q < tableSize m → m < n ∨ (m = n ∧ q < o) → checkAt b a gateOpen m q = true := by
  refine ⟨fun h => ?_, fun ⟨ho, hfails, hearlier⟩ => validate_first ho hfails hearlier⟩
  have hexists : ∃ n o, o < tableSize n ∧ checkAt b a gateOpen n o = false := by
    by_contra hnone
    have hpasses : validate b a gateOpen = none := validate_none_iff.mpr fun m q hq =>
      (Bool.eq_false_or_eq_true _).resolve_right fun hfails => hnone ⟨m, q, hq, hfails⟩
    rw [hpasses] at h
    cases h
  obtain ⟨m, q, hq, hfails, hearlier⟩ := exists_first_failing hexists
  cases h.symm.trans (validate_first hq hfails hearlier)
  exact ⟨hq, hfails, hearlier⟩

theorem earlierWordsPass_iff :
    EarlierWordsPass b a gateOpen n o ↔
      ∀ m q, q < tableSize m → m < n ∨ (m = n ∧ q < o) → checkAt b a gateOpen m q = true :=
  forall₂_congr fun _ _ => forall_congr' fun hq => imp_congr_right fun _ => wordPasses_iff b a gateOpen hq

end

/-- Settles O39: the checks table by table, and the walk's first failing word. -/
theorem validationStopsAtTheFirstFailingWord : Obligations.ValidationStopsAtTheFirstFailingWord := by
  have hsome (b a : Bank) (gateOpen : Bool) (n o : Nat) : validate b a gateOpen = some (n, o) ↔
      o < tableSize n ∧ ¬ WordPasses b a gateOpen n o ∧ EarlierWordsPass b a gateOpen n o := by
    rw [validate_some_iff, earlierWordsPass_iff]
    refine and_congr_right fun ho => and_congr_left fun _ => ?_
    rw [wordPasses_iff b a gateOpen ho, Bool.not_eq_true]
  refine ⟨fun b a gateOpen => ?_, hsome, fun s r rest n o hat ho hfails hearlier => ?_⟩
  · rw [validate_none_iff]
    exact forall₂_congr fun _ _ => forall_congr' fun ho => (wordPasses_iff b a gateOpen ho).symm
  · rw [exec_commit hat, doCommit]
    have hstops := (hsome s.tables.staged s.tables.active s.gate.isOpen n o).mpr ⟨ho, hfails, hearlier⟩
    rw [show validate (leaveQueue s rest).tables.staged (leaveQueue s rest).tables.active (leaveQueue s rest).gate.isOpen =
      some (n, o) from hstops]

end Sys2Proof.Machine

/-! What the fields of a bank that passes validation are (R149, R150, R156, R194). -/

namespace Sys2Proof.Machine

/-! ### Where the fields lie -/

theorem controlFields (b : Bank) : ControlFields b :=
  ⟨rfl, rfl, rfl, rfl, rfl, rfl, rfl, beq_iff_eq⟩

theorem mapFields (b : Bank) : MapFields b := by
  constructor
  · intro p start hstart j f
    cases p <;> simp at hstart <;> rw [hstart] <;> rfl
  · intro x start hstart i j
    cases x <;> simp at hstart <;> rw [hstart] <;> exact ⟨rfl, rfl, rfl⟩

theorem driveFields (b : Bank) : DriveFields b := by
  have hresistance : ∀ c o, (c, o) ∈ [(Corner.fl, 0), (.fr, 1), (.rl, 2), (.rr, 3)] → b.resistance c = wordAt b.t4 o := by
    intro c o ho
    cases c <;> simp at ho <;> rw [ho] <;> rfl
  have hcurrents : ∀ x o, (x, o) ∈ [(Axle.front, 4), (.rear, 7)] →
      b.iMin x = wordAt b.t4 o ∧ b.iMax x = wordAt b.t4 (o + 1) ∧ b.iFallback x = wordAt b.t4 (o + 2) := by
    intro x o ho
    cases x <;> simp at ho <;> rw [ho] <;> exact ⟨rfl, rfl, rfl⟩
  have hband (i : Nat) : b.bandBound i = wordAt b.t5 (4 + 3 * i) ∧ b.bandScale i = wordAt b.t5 (5 + 3 * i) ∧
      b.bandHold i = wordAt b.t5 (6 + 3 * i) :=
    ⟨rfl, congrArg (wordAt b.t5) (by omega), congrArg (wordAt b.t5) (by omega)⟩
  exact ⟨hresistance, hcurrents, rfl, rfl, rfl, rfl, rfl, rfl, rfl, rfl, rfl, rfl, rfl, rfl, rfl, hband⟩

/-! ### What validation leaves of the fields -/

section
variable {b : Bank}

theorem word_of_validated (h : b.validated) {n o : Nat} (ho : o < tableSize n) : WordPasses b b false n o :=
  (wordPasses_iff b b false ho).mpr (validate_none_iff.mp h.2 n o ho)

/-- T0: the bits 14..9 and the word index of a MAPPED row. -/
theorem row_of_validated (h : b.validated) (g : Signal) (hmapped : (b.t0.getD (4 * g.index) 0#16).getLsbD 15 = true) :
    (b.t0.getD (4 * g.index) 0#16).extractLsb' 9 6 = 0#6 ∧ wordAt b.t0 (4 * g.index + 1) ≤ 7 := by
  have hindex : g.index < 9 := by cases g <;> decide
  have hfirst := word_of_validated h (n := 0) (o := 4 * g.index) (by simp [tableSize]; omega)
  have hsecond := word_of_validated h (n := 0) (o := 4 * g.index + 1) (by simp [tableSize]; omega)
  obtain ⟨⟨hbits, -⟩, -⟩ := hfirst
  obtain ⟨⟨-, hword, -⟩, -⟩ := hsecond
  exact ⟨hbits rfl (by omega) hmapped, (hword rfl (by omega) hmapped).2⟩

theorem row_cases_of_validated (h : b.validated) (g : Signal) :
    b.row g = .unmapped ∨ ∃ i k gain offset, b.row g = .mapped i k gain offset ∧ i ≤ 511 ∧ k ≤ 7 := by
  unfold Bank.row rowOf
  split
  · next hmapped =>
    rw [BitVec.msb_eq_getLsbD_last] at hmapped
    have hident := ((b.t0.getD (4 * g.index) 0#16).extractLsb' 0 9).isLt
    exact .inr ⟨_, _, _, _, rfl, by omega, (row_of_validated h g hmapped).2⟩
  · exact .inl rfl

theorem t1_of_validated (h : b.validated) :
    1000 ≤ b.tUs ∧ b.tUs ≤ 5000 ∧ 2 ≤ b.staleLimit ∧ b.staleLimit ≤ 16 ∧ 4 ≤ b.leakShift ∧ b.leakShift ≤ 12 ∧
      1 ≤ b.identA ∧ b.identA ≤ 511 ∧ b.identB ≤ 511 ∧ (b.identB = 0 ∨ b.identB ≠ b.identA) ∧
      2 ≤ b.silenceTimeout ∧ b.silenceTimeout ≤ 50 ∧ wordAt b.t1 7 ≤ 1 := by
  have hword (o : Nat) (ho : o < 8) := word_of_validated h (n := 1) (o := o) ho
  have h0 := hword 0 (by decide)
  have h1 := hword 1 (by decide)
  have h2 := hword 2 (by decide)
  have h3 := hword 3 (by decide)
  have h4 := hword 4 (by decide)
  have h5 := hword 5 (by decide)
  have h7 := hword 7 (by decide)
  simp [WordPasses, LowerWordPasses, UpperWordPasses, Among] at h0 h1 h2 h3 h4 h5 h7
  exact ⟨h0.1, h0.2, h1.1, h1.2, h2.1, h2.2, h3.1, h3.2, h4.1, h4.2, h5.1, h5.2, h7⟩

/-- T2, at the word of a field of a point. -/
theorem t2_of_validated (h : b.validated) {o : Nat} (ho : o < 96) :
    (o % 4 = 0 → wordAt b.t2 o ≤ 9000 ∧ (o % 32 ≠ 0 → wordAt b.t2 (o - 4) < wordAt b.t2 o)) ∧
      (o % 4 = 1 ∨ o % 4 = 2 → wordAt b.t2 o ≤ 20000) ∧ (o % 4 = 3 → wordAt b.t2 o ≤ 12000) := by
  have hword := word_of_validated h (n := 2) (o := o) ho
  simpa [WordPasses, LowerWordPasses, UpperWordPasses, Among] using hword

theorem exists_scheduleBlock (p : Programme) :
    ∃ block, block < 3 ∧ ∀ (b : Bank) j f, b.schedule p j f = wordAt b.t2 (32 * block + 4 * j + f) := by
  cases p
  exacts [⟨0, by decide, fun _ _ _ => rfl⟩, ⟨1, by decide, fun _ _ _ => rfl⟩, ⟨2, by decide, fun _ _ _ => rfl⟩]

theorem schedule_of_validated (h : b.validated) (p : Programme) {j : Nat} (hj : j < 8) :
    b.schedule p j 0 ≤ 9000 ∧ b.schedule p j 1 ≤ 20000 ∧ b.schedule p j 2 ≤ 20000 ∧ b.schedule p j 3 ≤ 12000 := by
  obtain ⟨block, hblock, hfield⟩ := exists_scheduleBlock p
  have hword (f : Nat) (hf : f < 4) := t2_of_validated h (o := 32 * block + 4 * j + f) (by omega)
  simp only [hfield]
  exact ⟨((hword 0 (by decide)).1 (by omega)).1, (hword 1 (by decide)).2.1 (.inl (by omega)),
    (hword 2 (by decide)).2.1 (.inr (by omega)), (hword 3 (by decide)).2.2 (by omega)⟩

theorem schedule_increases_of_validated (h : b.validated) (p : Programme) {j : Nat} (hj : j < 7) :
    b.schedule p j 0 < b.schedule p (j + 1) 0 := by
  obtain ⟨block, hblock, hfield⟩ := exists_scheduleBlock p
  obtain ⟨hspeed, -⟩ := t2_of_validated h (o := 32 * block + 4 * (j + 1) + 0) (by omega)
  obtain ⟨-, hincreases⟩ := hspeed (by omega)
  have hlt := hincreases (by omega)
  rw [show 32 * block + 4 * (j + 1) + 0 - 4 = 32 * block + 4 * j + 0 by omega] at hlt
  simpa only [hfield] using hlt

/-- T3, at a breakpoint or a current. -/
theorem t3_of_validated (h : b.validated) {o : Nat} (ho : o < 160) :
    (o % 80 < 8 → wordAt b.t3 o ≤ 2000 ∧ (o % 80 ≠ 0 → wordAt b.t3 (o - 1) < wordAt b.t3 o)) ∧
      (8 ≤ o % 80 → o % 80 < 16 →
        wordAt b.t3 o ≤ 12000 ∧ (o % 80 ≠ 8 → wordAt b.t3 (o - 1) < wordAt b.t3 o)) ∧
      (16 ≤ o % 80 → wordAt b.t3 o ≤ 2000) := by
  have hword := word_of_validated h (n := 3) (o := o) ho
  simpa [WordPasses, LowerWordPasses, UpperWordPasses, Among] using hword

theorem mapBase_cases (x : Axle) : mapBase x = 0 ∨ mapBase x = 80 := by
  cases x
  exacts [.inl rfl, .inr rfl]

theorem points_of_validated (h : b.validated) (x : Axle) {i : Nat} (hi : i < 8) :
    b.velocityPoint x i ≤ 2000 ∧ b.forcePoint x i ≤ 12000 := by
  have hbase := mapBase_cases x
  obtain ⟨hvelocity, -, -⟩ := t3_of_validated h (o := mapBase x + i) (by omega)
  obtain ⟨-, hforce, -⟩ := t3_of_validated h (o := mapBase x + 8 + i) (by omega)
  exact ⟨(hvelocity (by omega)).1, (hforce (by omega) (by omega)).1⟩

theorem points_increase_of_validated (h : b.validated) (x : Axle) {i : Nat} (hi : i < 7) :
    b.velocityPoint x i < b.velocityPoint x (i + 1) ∧ b.forcePoint x i < b.forcePoint x (i + 1) := by
  have hbase := mapBase_cases x
  obtain ⟨hvelocity, -, -⟩ := t3_of_validated h (o := mapBase x + (i + 1)) (by omega)
  obtain ⟨-, hforce, -⟩ := t3_of_validated h (o := mapBase x + 8 + (i + 1)) (by omega)
  exact ⟨(hvelocity (by omega)).2 (by omega), (hforce (by omega) (by omega)).2 (by omega)⟩

theorem mapCurrent_of_validated (h : b.validated) (x : Axle) {i j : Nat} (hi : i < 8) (hj : j < 8) :
    b.mapCurrent x i j ≤ 2000 := by
  have hbase := mapBase_cases x
  obtain ⟨-, -, hcurrent⟩ := t3_of_validated h (o := mapBase x + 16 + 8 * i + j) (by omega)
  exact hcurrent (by omega)

theorem resistance_of_validated (h : b.validated) (c : Corner) : 1000 ≤ b.resistance c ∧ b.resistance c ≤ 20000 := by
  have hword (o : Nat) (ho : o < 4) : 1000 ≤ wordAt b.t4 o ∧ wordAt b.t4 o ≤ 20000 := by
    obtain ⟨-, hresistance, -⟩ := word_of_validated h (n := 4) (o := o) (ho.trans (by decide))
    exact hresistance rfl ho
  cases c
  exacts [hword 0 (by decide), hword 1 (by decide), hword 2 (by decide), hword 3 (by decide)]

theorem currents_of_validated (h : b.validated) (x : Axle) :
    b.iMin x ≤ b.iFallback x ∧ b.iFallback x ≤ b.iMax x ∧ b.iMax x ≤ 2000 := by
  have hrange (o : Nat) (hlow : 4 ≤ o) (ho : o < 10) : wordAt b.t4 o ≤ 2000 := by
    obtain ⟨-, -, hcurrent, -⟩ := word_of_validated h (n := 4) (o := o) (ho.trans (by decide))
    exact (hcurrent rfl hlow ho).2
  obtain ⟨hlow, hhigh⟩ := ordered_of_validated h x
  refine ⟨hlow, hhigh, ?_⟩
  cases x
  exacts [hrange 5 (by decide) (by decide), hrange 8 (by decide) (by decide)]

theorem t4_of_validated (h : b.validated) :
    50 ≤ b.pwmPeriod ∧ b.pwmPeriod ≤ 1000 ∧ 50 ≤ b.boostStep ∧ b.boostStep ≤ 1000 ∧ 10 ≤ b.boostBand ∧
      b.boostBand ≤ 200 ∧ 1 ≤ b.boostTimeout ∧ b.boostTimeout ≤ 20 ∧ 20 ≤ b.tolerance ∧ b.tolerance ≤ 500 ∧
      2 ≤ b.settleCount ∧ b.settleCount ≤ 32 ∧ 2 ≤ b.faultCount ∧ b.faultCount ≤ 16 ∧ 8000 ≤ b.vLow ∧ b.vLow ≤ 12000 ∧
      6000 ≤ b.vCut ∧ b.vCut + 500 ≤ b.vLow := by
  have hword (o : Nat) (ho : o < 20) := word_of_validated h (n := 4) (o := o) ho
  have h10 := hword 10 (by decide)
  have h11 := hword 11 (by decide)
  have h12 := hword 12 (by decide)
  have h13 := hword 13 (by decide)
  have h14 := hword 14 (by decide)
  have h15 := hword 15 (by decide)
  have h16 := hword 16 (by decide)
  have h17 := hword 17 (by decide)
  have h18 := hword 18 (by decide)
  simp [WordPasses, LowerWordPasses, UpperWordPasses, Among] at h10 h11 h12 h13 h14 h15 h16 h17 h18
  exact ⟨h10.1, h10.2, h11.1, h11.2, h12.1, h12.2, h13.1, h13.2, h14.1, h14.2, h15.1, h15.2, h16.1, h16.2, h17.1, h17.2,
    h18.1, h18.2⟩

theorem spareWord_of_validated (h : b.validated) : wordAt b.t4 19 = 0 := by
  have hword := word_of_validated h (n := 4) (o := 19) (by decide)
  simpa [WordPasses, LowerWordPasses, UpperWordPasses] using hword

theorem t5_of_validated (h : b.validated) :
    b.previewEnable ≤ 1 ∧ 50 ≤ b.trigger ∧ b.trigger ≤ 1500 ∧ 2000 ≤ b.wheelbase ∧ b.wheelbase ≤ 3800 ∧
      100 ≤ b.minimumSpeed ∧ b.minimumSpeed ≤ 3000 := by
  have hword (o : Nat) (ho : o < 16) := word_of_validated h (n := 5) (o := o) ho
  have h0 := hword 0 (by decide)
  have h1 := hword 1 (by decide)
  have h2 := hword 2 (by decide)
  have h3 := hword 3 (by decide)
  simp [WordPasses, LowerWordPasses, UpperWordPasses, Among] at h0 h1 h2 h3
  exact ⟨h0, h1.1, h1.2, h2.1, h2.2, h3.1, h3.2⟩

/-- T5, at a word of a band. -/
theorem bandWord_of_validated (h : b.validated) {o : Nat} (hlow : 4 ≤ o) (ho : o < 16) :
    (o % 3 = 1 → wordAt b.t5 o ≤ 2000 ∧ (o ≠ 4 → wordAt b.t5 (o - 3) < wordAt b.t5 o)) ∧
      (o % 3 = 2 → wordAt b.t5 o ≤ 256) ∧ (o % 3 = 0 → 1 ≤ wordAt b.t5 o ∧ wordAt b.t5 o ≤ 255) := by
  have hword := word_of_validated h (n := 5) (o := o) ho
  have hbands : ¬ o = 0 ∧ ¬ o = 1 ∧ ¬ o = 2 ∧ ¬ o = 3 := by omega
  simpa [WordPasses, LowerWordPasses, UpperWordPasses, Among, hlow, hbands] using hword

theorem band_of_validated (h : b.validated) {i : Nat} (hi : i < 4) :
    b.bandBound i ≤ 2000 ∧ b.bandScale i ≤ 256 ∧ 1 ≤ b.bandHold i ∧ b.bandHold i ≤ 255 := by
  obtain ⟨hbound, -, -⟩ := bandWord_of_validated h (o := 4 + 3 * i) (by omega) (by omega)
  obtain ⟨-, hscale, -⟩ := bandWord_of_validated h (o := 4 + 3 * i + 1) (by omega) (by omega)
  obtain ⟨-, -, hhold⟩ := bandWord_of_validated h (o := 4 + 3 * i + 2) (by omega) (by omega)
  exact ⟨(hbound (by omega)).1, hscale (by omega), hhold (by omega)⟩

theorem bands_increase_of_validated (h : b.validated) {i : Nat} (hi : i < 3) : b.bandBound i < b.bandBound (i + 1) := by
  obtain ⟨hbound, -, -⟩ := bandWord_of_validated h (o := 4 + 3 * (i + 1)) (by omega) (by omega)
  obtain ⟨-, hincreases⟩ := hbound (by omega)
  have hlt := hincreases (by omega)
  rwa [show 4 + 3 * (i + 1) - 3 = 4 + 3 * i by omega] at hlt

end

/-- Settles O42: the offsets of the fields, and the checks of each table read at its fields. -/
theorem validatedBanksMeetTheirRanges : Obligations.ValidatedBanksMeetTheirRanges := by
  refine ⟨fun b t o => ⟨rfl, controlFields b, mapFields b, driveFields b⟩, fun b hb => ?_⟩
  obtain ⟨ht, ht', hstale, hstale', hleak, hleak', ha, ha', hidentB, hdistinct, hsilence, hsilence', horder⟩ :=
    t1_of_validated hb
  obtain ⟨hpwm, hpwm', hstep, hstep', hband, hband', htimeout, htimeout', htolerance, htolerance', hsettle, hsettle', hfault,
    hfault', hlow, hlow', hcut, hcut'⟩ := t4_of_validated hb
  obtain ⟨henable, htrigger, htrigger', hwheelbase, hwheelbase', hspeed, hspeed'⟩ := t5_of_validated hb
  exact ⟨ht, ht', hstale, hstale', hleak, hleak', ha, ha', hidentB, hdistinct, hsilence, hsilence', horder,
    spareWord_of_validated hb, fun g hg => (row_of_validated hb g hg).1, row_cases_of_validated hb,
    fun p _ hj => schedule_of_validated hb p hj, fun p _ hj => schedule_increases_of_validated hb p hj,
    fun x _ hi => points_of_validated hb x hi, fun x _ hi => points_increase_of_validated hb x hi,
    fun x _ _ hi hj => mapCurrent_of_validated hb x hi hj, resistance_of_validated hb, currents_of_validated hb,
    hpwm, hpwm', hstep, hstep', hband, hband', htimeout, htimeout', htolerance, htolerance', hsettle, hsettle', hfault,
    hfault', hlow, hlow', hcut, hcut', henable, htrigger, htrigger', hwheelbase, hwheelbase', hspeed, hspeed',
    fun _ hi => band_of_validated hb hi, fun _ hi => bands_increase_of_validated hb hi⟩

end Sys2Proof.Machine

/-! Frames that the blocks read (R167, R168): the state they are read on, and where the frame is placed; SAMPLE frames
(chapter 2). -/

namespace Sys2Proof.Machine

/-! ### Counting and placing -/

@[simp] theorem countFrame_frame (s : State) (p : Port) :
    (countFrame s p).capture = s.capture ∧ (countFrame s p).timing = s.timing ∧ (countFrame s p).engine = s.engine ∧
    (countFrame s p).tables = s.tables ∧ (countFrame s p).drive = s.drive ∧ (countFrame s p).monitor = s.monitor ∧
    (countFrame s p).supply = s.supply ∧ (countFrame s p).gate = s.gate ∧ (countFrame s p).mgmt = s.mgmt :=
  ⟨rfl, rfl, rfl, rfl, rfl, rfl, rfl, rfl, rfl⟩

@[simp] theorem placeFrame_frame (room : Bool) (p : Port) (ws : List Word) (s : State) :
    (placeFrame room p ws s).capture = s.capture ∧ (placeFrame room p ws s).timing = s.timing ∧
    (placeFrame room p ws s).engine = s.engine ∧ (placeFrame room p ws s).tables = s.tables ∧
    (placeFrame room p ws s).drive = s.drive ∧ (placeFrame room p ws s).monitor = s.monitor ∧
    (placeFrame room p ws s).supply = s.supply ∧ (placeFrame room p ws s).gate = s.gate ∧
    (placeFrame room p ws s).mgmt = s.mgmt := by
  cases room <;> exact ⟨rfl, rfl, rfl, rfl, rfl, rfl, rfl, rfl, rfl⟩

theorem placeFrame_link_of {s t : State} (room : Bool) (p : Port) (ws : List Word) (h : t.link = s.link) :
    (placeFrame room p ws t).link = (placeFrame room p ws s).link := by
  cases room
  · exact h
  · simp only [placeFrame, if_true, setPort_link, port_of_link h, h]

/-- The state on which the blocks read a frame that is not consumed: counted, FULL_DROPS set without room for it, and placed
already unless they read it first (R167, R168; log entry 7). -/
def beforeReading (p : Port) (ws : List Word) (readFirst : Bool) (s : State) : State :=
  placeFrame (hasRoom s p && !readFirst) p ws (setFlagIf (!hasRoom s p) .fullDrops (countFrame s p))

/-- The state once a frame that they read first has been placed. -/
def afterReading (p : Port) (ws : List Word) (readFirst : Bool) (s read : State) : State :=
  placeFrame (hasRoom s p && readFirst) p ws read

@[simp] theorem afterReading_frame (p : Port) (ws : List Word) (o : Bool) (s t : State) :
    (afterReading p ws o s t).capture = t.capture ∧ (afterReading p ws o s t).timing = t.timing ∧
    (afterReading p ws o s t).engine = t.engine ∧ (afterReading p ws o s t).tables = t.tables ∧
    (afterReading p ws o s t).drive = t.drive ∧ (afterReading p ws o s t).monitor = t.monitor ∧
    (afterReading p ws o s t).supply = t.supply ∧ (afterReading p ws o s t).gate = t.gate ∧
    (afterReading p ws o s t).mgmt = t.mgmt :=
  placeFrame_frame _ _ _ _

@[simp] theorem beforeReading_frame (p : Port) (ws : List Word) (o : Bool) (s : State) :
    (beforeReading p ws o s).capture = s.capture ∧ (beforeReading p ws o s).timing = s.timing ∧
    (beforeReading p ws o s).engine = s.engine ∧ (beforeReading p ws o s).tables = s.tables ∧
    (beforeReading p ws o s).drive = s.drive ∧ (beforeReading p ws o s).monitor = s.monitor ∧
    (beforeReading p ws o s).supply = s.supply ∧ (beforeReading p ws o s).gate = s.gate := by
  simp [beforeReading]

theorem beforeReading_mgmt (p : Port) (ws : List Word) (o : Bool) (s : State) :
    { (beforeReading p ws o s).mgmt with flags := s.mgmt.flags } = s.mgmt := by
  simp only [beforeReading, placeFrame_frame]
  cases hasRoom s p <;> simp

theorem beforeReading_flags (p : Port) (ws : List Word) (o : Bool) (s : State) :
    Flag.fullDrops.isSet (beforeReading p ws o s).mgmt.flags = (Flag.fullDrops.isSet s.mgmt.flags || !hasRoom s p) ∧
      FlagsKept [.fullDrops] s (beforeReading p ws o s) := by
  simp only [beforeReading, FlagsKept, placeFrame_frame]
  exact ⟨setFlagIf_isSet _ _ _, flagsKept_setFlagIf _ _ (countFrame s p)⟩

/-- The link once a frame has been read that by its reading ends no request. -/
theorem afterReading_link {p : Port} {ws : List Word} {o : Bool} {s t : State}
    (h : t.link = (beforeReading p ws o s).link) : (afterReading p ws o s t).link = linkAfter s p ws := by
  rw [afterReading, placeFrame_link_of _ _ _ h, beforeReading, linkAfter]
  cases hasRoom s p <;> cases o <;> rfl

/-- The link once a frame has been read that by its reading ends a request, answered OK. -/
theorem afterReading_link_answered {p : Port} {ws : List Word} {o : Bool} {s t : State} {r : Request}
    (h : t.link = (answer r .ok [] (beforeReading p ws o s)).link) :
    (afterReading p ws o s t).link = linkAnswered s p ws o r := by
  rw [afterReading, placeFrame_link_of _ _ _ h, beforeReading, linkAnswered]
  have hcounted : (setFlagIf (!hasRoom s p) .fullDrops (countFrame s p)).link = (countFrame s p).link := by simp
  cases o
  · rw [Bool.and_false, Bool.not_false, Bool.and_true]
    exact answer_link_of _ _ _ (placeFrame_link_of _ _ _ hcounted)
  · rw [Bool.and_true, Bool.not_true, Bool.and_false]
    exact placeFrame_link_of _ _ _ (answer_link_of _ _ _ hcounted)

/-- A good frame that is no REQUEST is counted, read and placed (R167, R168). -/
theorem exec_receptionCompletion_read {p : Port} {ws : List Word} {d w : Bool} {s : State} (o : Bool)
    (hrun : s.resetInProgress = false) (hcheck : passesCheck ws d w = true) (hformat : wellFormatted ws = true)
    (hkind : headerKind (frameHeader ws) ≠ 2#3) :
    exec (.receptionCompletion p ws d w o) s =
      .next (afterReading p ws o s (handOver p ws (beforeReading p ws o s))) := by
  rw [exec_receptionCompletion p ws d w o hrun, judgeReception_passed hcheck hformat fun h => absurd h hkind]
  by_cases hroom : (s.port (opposite p)).fifo.length < 8
  · rw [if_pos hroom]
    have hplaces : hasRoom s p = true := decide_eq_true hroom
    have hcounted : countFrame s p = countAt p .accepted s := by
      simp only [countFrame, hplaces]
      rfl
    simp only [beforeReading, afterReading, hplaces, hcounted]
    cases o <;> rfl
  · rw [if_neg hroom]
    have hplaces : hasRoom s p = false := decide_eq_false hroom
    have hcounted : countFrame s p = countAt p .full s := by
      simp only [countFrame, hplaces]
      rfl
    simp only [beforeReading, afterReading, hplaces, hcounted]
    rfl

/-! ### Serving the rows (R26 to R28) -/

/-- The live value of a signal once its row has been served. -/
def servedLive (m : Tables) (ident : Nat) (payload : List Word) (g : Signal) (old : Live) : Live :=
  match m.row g with
  | .unmapped => old
  | .mapped id index gain offset =>
    if id = ident then
      match payload[index]? with
      | none => old
      | some x =>
        { value := clampSignal g (extract x.toInt gain offset)
          age := 0
          clamps :=
            if clampSignal g (extract x.toInt gain offset) = extract x.toInt gain offset then old.clamps
            else min 65535 (old.clamps + 1) }
    else old

/-- Whether a signal's row lies beyond the frame's words. -/
def fallsShort (m : Tables) (ident : Nat) (payload : List Word) (g : Signal) : Bool :=
  match m.row g with
  | .unmapped => false
  | .mapped id index _ _ => id == ident && decide (payload.length ≤ index)

/-- Whether serving a signal's row clamps its value. -/
def servingClamps (m : Tables) (ident : Nat) (payload : List Word) (g : Signal) : Bool :=
  match m.row g with
  | .unmapped => false
  | .mapped id index gain offset =>
    id == ident &&
      match payload[index]? with
      | none => false
      | some x => decide (clampSignal g (extract x.toInt gain offset) ≠ extract x.toInt gain offset)

section
variable (ident : Nat) (payload : List Word)

theorem serveRow_live (g x : Signal) (s : State) :
    (serveRow ident payload g s).capture.live.get x =
      if x = g then servedLive s.tables ident payload g (s.capture.live.get g) else s.capture.live.get x := by
  have hsame : (if x = g then s.capture.live.get g else s.capture.live.get x) = s.capture.live.get x := by
    split
    · next hx => rw [hx]
    · rfl
  unfold serveRow servedLive
  cases s.tables.row g with
  | unmapped => exact hsame.symm
  | mapped id index gain offset =>
    by_cases hid : id = ident
    · simp only [if_pos hid]
      cases payload[index]? with
      | none => exact hsame.symm
      | some w =>
        simp only [writeSignal, setFlagIf_capture, setLive_capture]
        by_cases hx : x = g
        · subst hx
          rw [PerSignal.get_set_same, if_pos rfl]
          by_cases hclamp : clampSignal x (extract w.toInt gain offset) = extract w.toInt gain offset <;> simp [hclamp]
        · rw [if_neg hx]
          exact PerSignal.get_set_ne _ _ hx
    · simp only [if_neg hid]
      exact hsame.symm

theorem serveRow_short (g : Signal) (s : State) :
    (serveRow ident payload g s).capture.short =
      s.capture.short + if fallsShort s.tables ident payload g then 1 else 0 := by
  unfold serveRow fallsShort
  cases s.tables.row g with
  | unmapped => simp
  | mapped id index gain offset =>
    by_cases hid : id = ident
    · rcases Nat.lt_or_ge index payload.length with hlt | hge
      · simp [hid, hlt]
      · simp [hid, hge]
    · simp [hid]

theorem serveRow_clamped (g : Signal) (s : State) :
    Flag.signalClamped.isSet (serveRow ident payload g s).mgmt.flags =
      (Flag.signalClamped.isSet s.mgmt.flags || servingClamps s.tables ident payload g) := by
  unfold serveRow servingClamps
  cases s.tables.row g with
  | unmapped => simp
  | mapped id index gain offset =>
    by_cases hid : id = ident
    · simp only [if_pos hid, beq_iff_eq.mpr hid, Bool.true_and]
      cases payload[index]? with
      | none => simp
      | some w => exact setFlagIf_isSet _ _ _
    · simp [hid]

theorem serveRows_live (x : Signal) {gs : List Signal} (hgs : gs.Nodup) (s : State) :
    (gs.foldl (fun s' g => serveRow ident payload g s') s).capture.live.get x =
      if x ∈ gs then servedLive s.tables ident payload x (s.capture.live.get x) else s.capture.live.get x := by
  induction gs generalizing s with
  | nil => rfl
  | cons g gs ih =>
    obtain ⟨hg, hrest⟩ := List.nodup_cons.mp hgs
    rw [List.foldl_cons, ih hrest, serveRow_live, (serveRow_frame ident payload g s).2.2.2.2.2.1]
    by_cases hx : x = g
    · subst hx
      simp [hg]
    · simp [hx]

theorem serveRows_short (gs : List Signal) (s : State) :
    (gs.foldl (fun s' g => serveRow ident payload g s') s).capture.short =
      s.capture.short + BitVec.ofNat 32 (gs.filter (fallsShort s.tables ident payload)).length := by
  induction gs generalizing s with
  | nil => simp
  | cons g gs ih =>
    have htables : (serveRow ident payload g s).tables = s.tables := by simp
    rw [List.foldl_cons, ih, serveRow_short, htables, List.filter_cons]
    cases fallsShort s.tables ident payload g
    · simp
    · simp [Nat.add_comm _ 1, BitVec.ofNat_add, BitVec.add_assoc]

theorem serveRows_clamped (gs : List Signal) (s : State) :
    Flag.signalClamped.isSet (gs.foldl (fun s' g => serveRow ident payload g s') s).mgmt.flags =
      (Flag.signalClamped.isSet s.mgmt.flags || gs.any (servingClamps s.tables ident payload)) := by
  induction gs generalizing s with
  | nil => simp
  | cons g gs ih =>
    have htables : (serveRow ident payload g s).tables = s.tables := by simp
    rw [List.foldl_cons, ih, serveRow_clamped, htables, List.any_cons, Bool.or_assoc]

end

/-! ### The signal map and the ranges (R23, R24, R194) -/

theorem row_of_word {b : Bank} {g : Signal} {n : Nat} (hindex : g.index = n) :
    ((b.t0.getD (4 * n) 0#16).getLsbD 15 = false → b.row g = .unmapped) ∧
      ((b.t0.getD (4 * n) 0#16).getLsbD 15 = true →
        b.row g = .mapped ((b.t0.getD (4 * n) 0#16).extractLsb' 0 9).toNat (b.t0.getD (4 * n + 1) 0#16).toNat
          (b.t0.getD (4 * n + 2) 0#16).toInt (b.t0.getD (4 * n + 3) 0#16).toInt) := by
  subst hindex
  unfold Bank.row rowOf
  rw [BitVec.msb_eq_getLsbD_last]
  constructor
  · intro hclear
    rw [if_neg (by rw [hclear]; exact Bool.false_ne_true)]
  · intro hset
    rw [if_pos hset]
    rfl

theorem tables_row_of (m : Tables) (g : Signal) :
    (m.activeValid = false → m.row g = .unmapped) ∧ (m.activeValid = true → m.row g = m.active.row g) := by
  unfold Tables.row
  constructor <;> intro h <;> simp [h]

/-- Settles O11: the ranges and the rows by their definitions; the rows of the frame are served one after the other, each
writing its own signal. -/
theorem sampleFramesWriteTheLiveStore : Obligations.SampleFramesWriteTheLiveStore := by
  refine ⟨fun v => ⟨fun g hg => ?_, fun g hg => ?_, rfl⟩, fun m g n hgn => ?_, fun p ws d w o s hrun hcheck hformat hkind => ?_⟩
  · simp at hg
    rcases hg with rfl | rfl | rfl | rfl <;> rfl
  · simp at hg
    rcases hg with rfl | rfl | rfl | rfl <;> rfl
  · have hindex : g.index = n := by
      simp at hgn
      rcases hgn with ⟨rfl, rfl⟩ | ⟨rfl, rfl⟩ | ⟨rfl, rfl⟩ | ⟨rfl, rfl⟩ | ⟨rfl, rfl⟩ | ⟨rfl, rfl⟩ | ⟨rfl, rfl⟩ | ⟨rfl, rfl⟩ |
        ⟨rfl, rfl⟩ <;> rfl
    obtain ⟨hinvalid, hvalid⟩ := tables_row_of m g
    obtain ⟨hclear, hset⟩ := row_of_word (b := m.active) hindex
    exact ⟨hindex, hinvalid, hvalid, hclear, hset⟩
  · have hread (t : State) : handOver p ws t = readSample (headerIdent (frameHeader ws)) (framePayload ws) t := if_pos hkind
    refine ⟨_, exec_receptionCompletion_read o hrun hcheck hformat (by rw [hkind]; decide), ?_⟩
    rw [hread]
    obtain ⟨hcapture, htiming, hengine, htables, hdrive, hmonitor, hsupply, hgate⟩ := beforeReading_frame p ws o s
    have hmgmt := beforeReading_mgmt p ws o s
    obtain ⟨hfull, hflags⟩ := beforeReading_flags p ws o s
    have hclampedKept := hflags .signalClamped (by decide)
    have hlink (t : State) := afterReading_link (p := p) (ws := ws) (o := o) (s := s) (t := t)
    generalize beforeReading p ws o s = b at *
    have hsampleFlags := flagsKept_readSample (headerIdent (frameHeader ws)) (framePayload ws) b
    refine ⟨fun g => ?_, ?_, hlink _ (by simp), ?_⟩
    · have hlive := serveRows_live (headerIdent (frameHeader ws)) (framePayload ws) g (gs := signals) (by decide) b
      rw [if_pos (by cases g <;> decide), htables, hcapture] at hlive
      simp only [afterReading_frame]
      exact hlive
    · have hshort := serveRows_short (headerIdent (frameHeader ws)) (framePayload ws) signals b
      rw [htables, hcapture] at hshort
      simp only [afterReading_frame]
      exact hshort
    · have hclamped := serveRows_clamped (headerIdent (frameHeader ws)) (framePayload ws) signals b
      rw [htables, hclampedKept] at hclamped
      have hothers := FlagsKept.trans (hflags.mono (fs := [.signalClamped, .fullDrops])) (hsampleFlags.mono)
      have hdropped := (hsampleFlags .fullDrops (by decide)).trans hfull
      simp only [afterReading_frame, readSample_frame]
      exact ⟨htiming, hengine, htables, hdrive, hmonitor, hsupply, hgate, hmgmt, hothers, hdropped, hclamped⟩

end Sys2Proof.Machine

/-! Marks (R1, R2, R8 to R10, R13): what a mark that is read makes of Cycle Timing, and the cycle that a served one starts where
no COMMIT is pending. -/

namespace Sys2Proof.Machine

/-! ### States that differ in Cycle Timing -/

theorem Mgmt.flags_only {m n : Mgmt} (f : Word) (hexecuting : m.executing = n.executing) (hqueue : m.queue = n.queue)
    (hcaptures : m.captures = n.captures) : { m with flags := f } = { n with flags := f } := by
  rw [hexecuting, hqueue, hcaptures]

/-- Nothing but Cycle Timing and the listed flags has changed. -/
structure TimingMoved (fs : List Flag) (b m : State) : Prop where
  link : m.link = b.link := by simp
  engine : m.engine = b.engine := by simp
  capture : m.capture = b.capture := by simp
  tables : m.tables = b.tables := by simp
  drive : m.drive = b.drive := by simp
  monitor : m.monitor = b.monitor := by simp
  supply : m.supply = b.supply := by simp
  gate : m.gate = b.gate := by simp
  executing : m.mgmt.executing = b.mgmt.executing := by simp
  queue : m.mgmt.queue = b.mgmt.queue := by simp
  captures : m.mgmt.captures = b.mgmt.captures := by simp
  flags : FlagsKept fs b m

section
variable {fs gs : List Flag} {b m n s : State}

theorem TimingMoved.retimed (fs : List Flag) (b : State) (x : Timing) : TimingMoved fs b { b with timing := x } :=
  { flags := .of_agree rfl }

theorem TimingMoved.trans (h : TimingMoved fs b m) (g : TimingMoved fs m n) : TimingMoved fs b n :=
  ⟨g.link.trans h.link, g.engine.trans h.engine, g.capture.trans h.capture, g.tables.trans h.tables, g.drive.trans h.drive,
    g.monitor.trans h.monitor, g.supply.trans h.supply, g.gate.trans h.gate, g.executing.trans h.executing,
    g.queue.trans h.queue, g.captures.trans h.captures, h.flags.trans g.flags⟩

theorem TimingMoved.mono (h : TimingMoved gs b m) (hsub : gs ⊆ fs := by decide) : TimingMoved fs b m :=
  { h with flags := h.flags.mono hsub }

theorem timingMoved_setFlag (f : Flag) (b : State) : TimingMoved [f] b (setFlag f b) := { flags := flagsKept_setFlag f b }

theorem timingMoved_setFlagIf (x : Bool) (f : Flag) (b : State) : TimingMoved [f] b (setFlagIf x f b) := by
  cases x
  · exact TimingMoved.retimed [f] b b.timing
  · exact timingMoved_setFlag f b

theorem TimingMoved.mgmt (h : TimingMoved fs b m) (f : Word) : { m.mgmt with flags := f } = { b.mgmt with flags := f } :=
  Mgmt.flags_only f h.executing h.queue h.captures

end

/-- A frame whose reading moves Cycle Timing alone. -/
theorem TimingMoved.onlyTimingAndLink {fs : List Flag} {p : Port} {ws : List Word} {o : Bool} {s m : State}
    (h : TimingMoved fs (beforeReading p ws o s) m) (hfull : Flag.fullDrops ∉ fs := by decide) :
    OnlyTimingAndLink s (afterReading p ws o s m) p ws fs := by
  obtain ⟨hcapture, -, hengine, htables, hdrive, hmonitor, hsupply, hgate⟩ := beforeReading_frame p ws o s
  obtain ⟨hdropped, hkept⟩ := beforeReading_flags p ws o s
  have hlink := afterReading_link h.link
  unfold OnlyTimingAndLink
  rw [hlink]
  simp only [afterReading_frame]
  refine ⟨trivial, (h.flags .fullDrops hfull).trans hdropped, ?_, ?_, h.engine.trans hengine, h.capture.trans hcapture,
    h.tables.trans htables, h.drive.trans hdrive, h.monitor.trans hmonitor, h.supply.trans hsupply, h.gate.trans hgate⟩
  · exact (hkept.mono (by simp)).trans (h.flags.mono (fs := .fullDrops :: fs) (List.subset_cons_self _ _))
  · exact (h.mgmt s.mgmt.flags).trans (beforeReading_mgmt p ws o s)

/-! ### The arrival of a mark (R1, R2, R5, R6) -/

section
variable {src : Source} {s b : State} {timeout : Nat}

theorem markArrives_alive (h : b.timing.sources.get src = .alive timeout) : markArrives src b = restartTimer src b := by
  rw [markArrives, if_neg (by rw [h]; exact fun heq => by cases heq)]

theorem markArrives_silent (h : b.timing.sources.get src = .silent) :
    markArrives src b = reevaluate false (restartTimer src b) := if_pos h

theorem timingMoved_restartTimer (fs : List Flag) (src : Source) (b : State) : TimingMoved fs b (restartTimer src b) :=
  .retimed fs b _

theorem timingMoved_selectSource (src : Source) (b : State) : TimingMoved [.sourceSwitch] b (selectSource src b) :=
  (TimingMoved.retimed [.sourceSwitch] b _).trans (timingMoved_setFlag .sourceSwitch _)

/-- A source whose timer has been restarted leaves some source selected. -/
theorem selectionOf_restarted_isSome (v : PerSource SourceState) (src : Source) (n : Nat) :
    ∃ x, selectionOf (v.set src (.alive n)) = some x := by
  obtain ⟨va, vb⟩ := v
  cases src
  · exact ⟨.a, rfl⟩
  · cases va
    exacts [⟨.b, rfl⟩, ⟨.a, rfl⟩]

theorem reevaluate_same (o : Bool) (h : selectionOf b.timing.sources = b.timing.selected) : reevaluate o b = b := if_pos h

theorem reevaluate_some (o : Bool) (hne : selectionOf b.timing.sources ≠ b.timing.selected)
    (h : selectionOf b.timing.sources = some src) : reevaluate o b = selectSource src b := by
  rw [reevaluate, if_neg hne]
  simp only [h]

end

/-- A mark has moved the selection to its source, or found it there. -/
structure MarkTaken (b m : State) (src : Source) (baseline : Option Word) (switched : Bool) : Prop
    extends TimingMoved [.sourceSwitch] b m where
  timing : m.timing =
    { b.timing with
      sources := b.timing.sources.set src (.alive b.tables.active.silenceTimeout)
      selected := some src
      baseline := baseline
      holdRequest := b.timing.holdRequest || switched }
  switch : Flag.sourceSwitch.isSet m.mgmt.flags = (Flag.sourceSwitch.isSet b.mgmt.flags || switched)

section
variable {src : Source} {b m s : State} {baseline : Option Word} {switched : Bool} {timeout : Nat}

theorem markTaken_alive (halive : b.timing.sources.get src = .alive timeout) (hselected : b.timing.selected = some src) :
    MarkTaken b (markArrives src b) src b.timing.baseline false := by
  rw [markArrives_alive halive]
  refine ⟨timingMoved_restartTimer _ src b, ?_, (Bool.or_false _).symm⟩
  rw [Bool.or_false, ← hselected]
  rfl

theorem MarkTaken.selected (h : MarkTaken b m src baseline switched) : m.timing.selected = some src := by rw [h.timing]

/-- A SILENT source takes the selection unless A is ALIVE (R5). -/
theorem selectionOf_taken {v : PerSource SourceState} (n : Nat) (htakes : src = .a ∨ v.a = .silent) :
    selectionOf (v.set src (.alive n)) = some src := by
  obtain ⟨va, vb⟩ := v
  cases src with
  | a => rfl
  | b =>
    rcases htakes with h | h
    · cases h
    · cases h
      rfl

theorem selectionOf_silent {v : PerSource SourceState} (h : v.get src = .silent) : selectionOf v ≠ some src := by
  obtain ⟨va, vb⟩ := v
  cases src with
  | a =>
    have ha : va = .silent := h
    cases vb <;> simp [selectionOf, ha]
  | b =>
    have hb : vb = .silent := h
    cases va <;> simp [selectionOf, hb]

theorem markTaken_silent (hsilent : b.timing.sources.get src = .silent) (hinv : SelectionInv b)
    (htakes : src = .a ∨ b.timing.sources.a = .silent) : MarkTaken b (markArrives src b) src none true := by
  have hselects : selectionOf (restartTimer src b).timing.sources = some src := selectionOf_taken _ htakes
  have hmoves : selectionOf (restartTimer src b).timing.sources ≠ (restartTimer src b).timing.selected := by
    rw [hselects]
    intro heq
    have hselected : b.timing.selected = some src := heq.symm
    exact selectionOf_silent hsilent (hinv.symm.trans hselected)
  rw [markArrives_silent hsilent, reevaluate_some false hmoves hselects]
  refine ⟨(timingMoved_restartTimer _ src b).trans (timingMoved_selectSource src _), ?_, ?_⟩
  · rw [Bool.or_true]
    rfl
  · rw [selectSource, setFlag_isSet]
    rfl

end

/-! ### Judging a mark (R9) -/

section
variable {baseline : Option Word} {seq : Word}

theorem judgeMark_duplicate : judgeMark (some seq) seq = (none, false) := by simp [judgeMark]

/-- A mark that repeats no sequence number is served, by its distance from the baseline. -/
theorem judgeMark_served (h : baseline ≠ some seq) :
    ∃ k gap, judgeMark baseline seq = (some k, gap) ∧ ServedBy baseline seq k gap := by
  cases baseline with
  | none => exact ⟨1, false, rfl, fun _ => ⟨rfl, rfl⟩, fun _ hbase => nomatch hbase⟩
  | some base =>
    have hdistance : (seq - base).toNat ≠ 0 := fun hzero => h (congrArg some (by bv_omega))
    have hserved {k : Nat} {gap : Bool} (hjudged : judgeMark (some base) seq = (some k, gap))
        (hby : ((seq - base).toNat = 1 → k = 1 ∧ gap = false) ∧
          (2 ≤ (seq - base).toNat → (seq - base).toNat ≤ 4 → k = (seq - base).toNat ∧ gap = true) ∧
          (5 ≤ (seq - base).toNat → (seq - base).toNat ≤ 32767 → k = 4 ∧ gap = true) ∧
          (32768 ≤ (seq - base).toNat → k = 1 ∧ gap = true)) :
        ∃ k gap, judgeMark (some base) seq = (some k, gap) ∧ ServedBy (some base) seq k gap := by
      have hbases : ∀ x, some base = some x → _ := fun x hx => (Option.some.inj hx) ▸ hby
      have hnone : some base = none → k = 1 ∧ gap = false := fun hnone => nomatch hnone
      exact ⟨k, gap, hjudged, hnone, hbases⟩
    have hjudged : judgeMark (some base) seq =
        if (seq - base).toNat = 0 then (none, false)
        else if (seq - base).toNat = 1 then (some 1, false)
        else if (seq - base).toNat ≤ 4 then (some (seq - base).toNat, true)
        else if (seq - base).toNat ≤ 32767 then (some 4, true)
        else (some 1, true) := rfl
    rw [if_neg hdistance] at hjudged
    by_cases h1 : (seq - base).toNat = 1
    · rw [if_pos h1] at hjudged
      exact hserved hjudged ⟨fun _ => ⟨rfl, rfl⟩, by omega, by omega, by omega⟩
    · rw [if_neg h1] at hjudged
      by_cases h4 : (seq - base).toNat ≤ 4
      · rw [if_pos h4] at hjudged
        exact hserved hjudged ⟨by omega, fun _ _ => ⟨rfl, rfl⟩, by omega, by omega⟩
      · rw [if_neg h4] at hjudged
        by_cases hfar : (seq - base).toNat ≤ 32767
        · rw [if_pos hfar] at hjudged
          exact hserved hjudged ⟨by omega, by omega, fun _ _ => ⟨rfl, rfl⟩, by omega⟩
        · rw [if_neg hfar] at hjudged
          exact hserved hjudged ⟨by omega, by omega, by omega, fun _ => ⟨rfl, rfl⟩⟩

end

/-! ### The cycle that a served mark starts (R10, R13, R29 to R32) -/

/-- The inputs of the cycle that starts on a state. -/
def cycleOn (k : Nat) (seq : Word) (n : Count) (hold : Bool) (c : State) : Cycle :=
  { bank := c.tables.active, programme := c.engine.programme, k := k, snapshot := takeSnapshot c, seq := seq, number := n,
    hold := hold }

/-- The state once a cycle has started on it, with the hold-cycle request flag that the swap has left. -/
def started (k : Nat) (y : Cycle) (request : Bool) (c : State) : State :=
  { setFlagIf (anyStale y.snapshot) .signalStale (ageSignals k c) with
    timing := { c.timing with holdRequest := request }
    engine := { c.engine with computing := some y } }

theorem startCycle_eq (k : Nat) (seq : Word) (n : Count) (e : State) :
    startCycle k seq n e =
      started k (cycleOn k seq n ((applyProgramme (completeCommit e)).timing.holdRequest || e.tables.commitPending ||
          (completeCommit e).engine.pendingProgramme.isSome) (applyProgramme (completeCommit e)))
        (decide ((completeCommit e).timing.selected ≠ e.timing.selected) && (completeCommit e).timing.selected.isSome)
        (applyProgramme (completeCommit e)) := by
  unfold startCycle started cycleOn
  dsimp only
  generalize applyProgramme (completeCommit e) = c
  have hsnapshot (x : Timing) : takeSnapshot { c with timing := x } = takeSnapshot c := rfl
  rw [hsnapshot]
  cases anyStale (takeSnapshot c) <;> rfl

@[simp] theorem started_frame (k : Nat) (y : Cycle) (request : Bool) (c : State) :
    (started k y request c).link = c.link ∧ (started k y request c).tables = c.tables ∧
    (started k y request c).drive = c.drive ∧ (started k y request c).monitor = c.monitor ∧
    (started k y request c).supply = c.supply ∧ (started k y request c).gate = c.gate ∧
    (started k y request c).timing = { c.timing with holdRequest := request } ∧
    (started k y request c).engine = { c.engine with computing := some y } ∧
    (started k y request c).capture = (ageSignals k c).capture ∧
    (started k y request c).mgmt.executing = c.mgmt.executing ∧ (started k y request c).mgmt.queue = c.mgmt.queue ∧
    (started k y request c).mgmt.captures = c.mgmt.captures := by
  simp [started]

theorem started_isSet (k : Nat) (y : Cycle) (request : Bool) (c : State) :
    Flag.signalStale.isSet (started k y request c).mgmt.flags =
        (Flag.signalStale.isSet c.mgmt.flags || signals.any fun g => (y.snapshot.get g).stale) ∧
      FlagsKept [.signalStale] c (started k y request c) :=
  ⟨setFlagIf_isSet _ _ (ageSignals k c), flagsKept_setFlagIf _ _ (ageSignals k c)⟩

theorem takeSnapshot_at (c : State) (g : Signal) :
    ((takeSnapshot c).get g).value = (c.capture.live.get g).value ∧
      ((takeSnapshot c).get g).age = (c.capture.live.get g).age ∧
      (((takeSnapshot c).get g).stale = true ↔
        c.tables.active.staleLimit ≤ (c.capture.live.get g).age ∨ c.tables.active.row g = .unmapped ∨
          (c.capture.live.get g).age = 255) := by
  have hget : (takeSnapshot c).get g =
      { value := (c.capture.live.get g).value, age := (c.capture.live.get g).age,
        stale := isStale c.tables.active g (c.capture.live.get g).age } := by
    cases g <;> rfl
  rw [hget]
  refine ⟨rfl, rfl, ?_⟩
  simp only [isStale, Bool.or_eq_true, decide_eq_true_eq, or_assoc]
  rfl

theorem ageSignals_live (k : Nat) (c : State) (g : Signal) :
    (ageSignals k c).capture.live.get g =
      { c.capture.live.get g with age := min 255 ((c.capture.live.get g).age + k) } := by
  cases g <;> rfl

/-- A state on which a served mark's cycle starts: `s` but for Cycle Timing, the link and the flags of a served mark. -/
structure ServedOn (s c : State) (p : Port) (gap switched : Bool) (others : List Flag) : Prop where
  engine : c.engine = s.engine
  capture : c.capture = s.capture
  tables : c.tables = s.tables
  drive : c.drive = s.drive
  monitor : c.monitor = s.monitor
  supply : c.supply = s.supply
  gate : c.gate = s.gate
  mgmt : { c.mgmt with flags := s.mgmt.flags } = s.mgmt
  markGap : Flag.markGap.isSet c.mgmt.flags = (Flag.markGap.isSet s.mgmt.flags || gap)
  sourceSwitch : Flag.sourceSwitch.isSet c.mgmt.flags = (Flag.sourceSwitch.isSet s.mgmt.flags || switched)
  fullDrops : Flag.fullDrops.isSet c.mgmt.flags = (Flag.fullDrops.isSet s.mgmt.flags || !hasRoom s p)
  flags : FlagsKept ([.markGap, .sourceSwitch, .fullDrops] ++ others) s c

theorem ServedOn.cycleServed {s c : State} {p : Port} {src : Source} {seq : Word} {k : Nat} {gap switched hold : Bool}
    {others : List Flag} (h : ServedOn s c p gap switched others) (hothers : Flag.signalStale ∉ others)
    (htiming : { c.timing with holdRequest := false } =
      { s.timing with
        sources := s.timing.sources.set src (.alive s.tables.active.silenceTimeout)
        selected := some src
        baseline := some seq
        holdRequest := false
        served := s.timing.served + 1
        reportPort := p })
    (hhold : hold = (s.timing.holdRequest || switched)) :
    CycleServed s (started k (cycleOn k seq (s.timing.served + 1) hold c) false c) p src seq k gap switched others := by
  have hstale : Flag.signalStale.isSet c.mgmt.flags = Flag.signalStale.isSet s.mgmt.flags :=
    h.flags .signalStale (by simp [hothers])
  obtain ⟨hflag, hflags⟩ := started_isSet k (cycleOn k seq (s.timing.served + 1) hold c) false c
  rw [hstale] at hflag
  have hstarted : CycleStarted s (started k (cycleOn k seq (s.timing.served + 1) hold c) false c) seq k
      (s.timing.holdRequest || switched) := by
    refine ⟨?_, congrArg Tables.active h.tables, congrArg Engine.programme h.engine, rfl, rfl, rfl, hhold, hflag,
      fun g => ?_⟩
    · change ({ c.engine with computing := none } : Engine) = { s.engine with computing := none }
      rw [h.engine]
    · have hat := takeSnapshot_at c g
      rw [h.capture, h.tables] at hat
      exact hat
  unfold CycleServed
  simp only [started_frame]
  refine ⟨htiming, hstarted, fun g => ?_, ?_, ?_, ?_, ?_, ?_, h.tables, h.drive, h.monitor, h.supply, h.gate, ?_⟩
  · rw [ageSignals_live, h.capture]
  · simp [h.capture]
  · rw [hflags .markGap (by decide), h.markGap]
  · rw [hflags .sourceSwitch (by decide), h.sourceSwitch]
  · rw [hflags .fullDrops (by decide), h.fullDrops]
  · refine (h.flags.mono fun f hf => ?_).trans (hflags.mono (by simp))
    simp only [List.cons_append, List.nil_append, List.mem_cons] at hf ⊢
    tauto
  · exact (Mgmt.flags_only _ (by simp) (by simp) (by simp)).trans h.mgmt

theorem CycleServed.afterReading {s t : State} {p : Port} {src : Source} {seq : Word} {k : Nat} {gap switched : Bool}
    {others : List Flag} (h : CycleServed s t p src seq k gap switched others) (q : Port) (ws : List Word) (o : Bool)
    (s' : State) : CycleServed s (afterReading q ws o s' t) p src seq k gap switched others := by
  simpa only [CycleServed, CycleStarted, afterReading_frame] using h

/-! ### The examination of a mark (R8 to R10) -/

/-- The state on which a served mark's cycle is to start (R10). -/
def toServe (p : Port) (seq : Word) (gap : Bool) (m : State) : State :=
  { setFlagIf gap .markGap m with
    timing := { m.timing with baseline := some seq, served := m.timing.served + 1, reportPort := p } }

section
variable {p : Port} {seq : Word} {k : Nat} {gap : Bool} {m : State}

theorem examineMark_computing {y : Cycle} (h : m.engine.computing = some y) :
    examineMark p seq m = setFlag .markSkipped { m with timing := { m.timing with skipped := m.timing.skipped + 1 } } := by
  simp [examineMark, h]

theorem examineMark_duplicate (hidle : m.engine.computing = none) (h : m.timing.baseline = some seq) :
    examineMark p seq m = { m with timing := { m.timing with duplicate := m.timing.duplicate + 1 } } := by
  simp [examineMark, hidle, h, judgeMark_duplicate]

theorem examineMark_served (hidle : m.engine.computing = none) (h : judgeMark m.timing.baseline seq = (some k, gap)) :
    examineMark p seq m = startCycle k seq (m.timing.served + 1) (toServe p seq gap m) := by
  simp only [examineMark, hidle, h, serveMark, toServe, setFlagIf_timing]
  rfl

theorem toServe_moved (p : Port) (seq : Word) (gap : Bool) (m : State) : TimingMoved [.markGap] m (toServe p seq gap m) :=
  (timingMoved_setFlagIf gap .markGap m).trans (.retimed _ _ _)

theorem toServe_isSet (p : Port) (seq : Word) (gap : Bool) (m : State) :
    Flag.markGap.isSet (toServe p seq gap m).mgmt.flags = (Flag.markGap.isSet m.mgmt.flags || gap) :=
  setFlagIf_isSet gap .markGap m

end

/-! ### Marks with no change pending, and with a programme pending (R10, R54) -/

section
variable {p : Port} {ws : List Word} {o : Bool} {s m : State} {src : Source} {baseline : Option Word} {seq : Word} {k : Nat}
  {gap switched : Bool}

theorem MarkTaken.toServe_timing (h : MarkTaken (beforeReading p ws o s) m src baseline switched) :
    (toServe p seq gap m).timing =
      { s.timing with
        sources := s.timing.sources.set src (.alive s.tables.active.silenceTimeout)
        selected := some src
        baseline := some seq
        holdRequest := s.timing.holdRequest || switched
        served := s.timing.served + 1
        reportPort := p } := by
  simp [toServe, h.timing]

theorem MarkTaken.served (h : MarkTaken (beforeReading p ws o s) m src baseline switched) : m.timing.served = s.timing.served := by
  simp [h.timing]

theorem MarkTaken.servedOn (h : MarkTaken (beforeReading p ws o s) m src baseline switched) :
    ServedOn s (toServe p seq gap m) p gap switched [] := by
  have hmoved := toServe_moved p seq gap m
  have hboth := h.toTimingMoved.mono (fs := [.markGap, .sourceSwitch]) |>.trans hmoved.mono
  obtain ⟨hfull, hkept⟩ := beforeReading_flags p ws o s
  refine ⟨?_, ?_, ?_, ?_, ?_, ?_, ?_, (hboth.mgmt _).trans (beforeReading_mgmt p ws o s), ?_, ?_, ?_, ?_⟩
  · simp [hboth.engine]
  · simp [hboth.capture]
  · simp [hboth.tables]
  · simp [hboth.drive]
  · simp [hboth.monitor]
  · simp [hboth.supply]
  · simp [hboth.gate]
  · rw [toServe_isSet, h.flags .markGap (by decide), hkept .markGap (by decide)]
  · rw [hmoved.flags .sourceSwitch (by decide), h.switch, hkept .sourceSwitch (by decide)]
  · rw [hboth.flags .fullDrops (by decide), hfull]
  · exact hkept.mono.trans hboth.flags.mono

/-- A mark is served where no change is pending. -/
theorem MarkTaken.markServed (h : MarkTaken (beforeReading p ws o s) m src baseline switched)
    (hidle : s.engine.computing = none) (hcommit : s.tables.commitPending = false)
    (hprogramme : s.engine.pendingProgramme = none) (hjudged : judgeMark baseline seq = (some k, gap)) :
    MarkServed s (afterReading p ws o s (examineMark p seq m)) p ws src seq k gap switched := by
  have hon := h.servedOn (seq := seq) (gap := gap)
  have htiming := h.toServe_timing (seq := seq) (gap := gap)
  have hbaseline : m.timing.baseline = baseline := by rw [h.timing]
  have hcompleted : completeCommit (toServe p seq gap m) = toServe p seq gap m := if_neg (by rw [hon.tables, hcommit]; simp)
  have happlied : applyProgramme (toServe p seq gap m) = toServe p seq gap m := by
    simp only [applyProgramme, hon.engine, hprogramme]
  rw [examineMark_served (by rw [h.engine]; simpa using hidle) (hbaseline ▸ hjudged), startCycle_eq, hcompleted, happlied]
  have hhold : ((toServe p seq gap m).timing.holdRequest || (toServe p seq gap m).tables.commitPending ||
      (toServe p seq gap m).engine.pendingProgramme.isSome) = (s.timing.holdRequest || switched) := by
    rw [hon.tables, hon.engine, hcommit, hprogramme, htiming]
    simp
  rw [h.served, hhold]
  simp only [ne_eq, not_true_eq_false, decide_false, Bool.false_and]
  refine ⟨(hon.cycleServed (by simp) (by rw [htiming]) rfl).afterReading p ws o s, afterReading_link ?_⟩
  rw [(started_frame _ _ _ _).1, (toServe_moved p seq gap m).link, h.link]

/-- A mark is served where a programme is pending: it is applied first, its request answered OK. -/
theorem MarkTaken.programmeServed {g : Programme} (h : MarkTaken (beforeReading p ws o s) m src baseline switched)
    (hidle : s.engine.computing = none) (hcommit : s.tables.commitPending = false)
    (hprogramme : s.engine.pendingProgramme = some g) (hjudged : judgeMark baseline seq = (some k, gap)) :
    CycleServed (programmeApplied g s) (afterReading p ws o s (examineMark p seq m)) p src seq k gap switched [.insertLost] ∧
      ∀ r, s.mgmt.executing = some r → (afterReading p ws o s (examineMark p seq m)).link = linkAnswered s p ws o r := by
  have hon := h.servedOn (seq := seq) (gap := gap)
  have htiming := h.toServe_timing (seq := seq) (gap := gap)
  have hbaseline : m.timing.baseline = baseline := by rw [h.timing]
  have hcompleted : completeCommit (toServe p seq gap m) = toServe p seq gap m := if_neg (by rw [hon.tables, hcommit]; simp)
  have happlied : applyProgramme (toServe p seq gap m) = endExecuting .ok []
      { toServe p seq gap m with engine := { s.engine with programme := g, pendingProgramme := none } } := by
    simp only [applyProgramme, hon.engine, hprogramme]
  have hlink : (toServe p seq gap m).link = (beforeReading p ws o s).link :=
    (toServe_moved p seq gap m).link.trans h.link
  have hexecuting : (toServe p seq gap m).mgmt.executing = s.mgmt.executing := by
    have hmgmt := congrArg Mgmt.executing hon.mgmt
    exact hmgmt
  rw [examineMark_served (by rw [h.engine]; simpa using hidle) (hbaseline ▸ hjudged), startCycle_eq, hcompleted, happlied]
  have hhold : ((endExecuting .ok []
      { toServe p seq gap m with engine := { s.engine with programme := g, pendingProgramme := none } }).timing.holdRequest ||
      (toServe p seq gap m).tables.commitPending || (toServe p seq gap m).engine.pendingProgramme.isSome) =
      ((programmeApplied g s).timing.holdRequest || switched) := by
    rw [hon.tables, hon.engine, hcommit, hprogramme]
    simp [programmeApplied]
  rw [h.served, hhold]
  simp only [ne_eq, not_true_eq_false, decide_false, Bool.false_and]
  have hended := flagsKept_endExecuting .ok []
    { toServe p seq gap m with engine := { s.engine with programme := g, pendingProgramme := none } }
  have hserved : ServedOn (programmeApplied g s) (endExecuting .ok []
      { toServe p seq gap m with engine := { s.engine with programme := g, pendingProgramme := none } }) p gap switched
      [.insertLost] := by
    refine ⟨by simp [programmeApplied], by simp [programmeApplied, hon.capture], by simp [programmeApplied, hon.tables],
      by simp [programmeApplied, hon.drive], by simp [programmeApplied, hon.monitor], by simp [programmeApplied, hon.supply],
      by simp [programmeApplied, hon.gate], ?_, ?_, ?_, ?_, ?_⟩
    · have hqueue : (toServe p seq gap m).mgmt.queue = s.mgmt.queue := by
        have hmgmt := congrArg Mgmt.queue hon.mgmt
        exact hmgmt
      have hcaptures : (toServe p seq gap m).mgmt.captures = s.mgmt.captures := by
        have hmgmt := congrArg Mgmt.captures hon.mgmt
        exact hmgmt
      exact Mgmt.flags_only s.mgmt.flags (n := (programmeApplied g s).mgmt) (by simp [programmeApplied])
        (by simp [programmeApplied, hqueue]) (by simp [programmeApplied, hcaptures])
    · exact (hended .markGap (by decide)).trans hon.markGap
    · exact (hended .sourceSwitch (by decide)).trans hon.sourceSwitch
    · exact (hended .fullDrops (by decide)).trans hon.fullDrops
    · exact FlagsKept.trans (t := toServe p seq gap m) (hon.flags.mono (by simp)) (hended.mono (by simp))
  refine ⟨(hserved.cycleServed (by decide) (by simp [htiming, programmeApplied]) rfl).afterReading p ws o s,
    fun r hr => afterReading_link_answered ?_⟩
  rw [(started_frame _ _ _ _).1, endExecuting_some (r := r) _ _ (by exact hexecuting.trans hr)]
  exact answer_link_of _ _ _ hlink

end

end Sys2Proof.Machine

/-! A swap block by block (R4 to R7, R34, R90, R127, R142, R157). -/

namespace Sys2Proof.Machine

/-! ### The Control Engine's side effect (R90) -/

/-- Whether a swap leaves the preview parameters that flush its queue when they change. -/
def SamePreview (a b : Bank) : Prop := a.previewEnable = b.previewEnable ∧ a.wheelbase = b.wheelbase

section
variable {o : Tables} {s : State}

theorem swapPreview_engine_same (h : SamePreview o.active s.tables.active) : (swapPreview o s).engine = s.engine := by
  have hkept : swapPreview o s = s := if_pos h
  rw [hkept]

theorem swapPreview_engine_idle (h : ¬ SamePreview o.active s.tables.active) (hidle : s.engine.computing = none) :
    (swapPreview o s).engine = { s.engine with queue := [], sides := ⟨.armed, .armed⟩ } := by
  rw [SamePreview] at h
  rw [swapPreview, if_neg h, hidle]
  rfl

theorem swapPreview_engine_computing (h : ¬ SamePreview o.active s.tables.active) (hcomputing : s.engine.computing ≠ none) :
    (swapPreview o s).engine = { s.engine with flushOwed := true } := by
  rw [SamePreview] at h
  rw [swapPreview, if_neg h, if_pos (Option.isSome_iff_ne_none.mpr hcomputing)]

end

/-! ### The Drive Unit's and the Current Monitor's side effects (R127, R142) -/

/-- A corner's monitor items after the swap's clamp of its target (R130). -/
def clampedItems (s : State) (c : Corner) : MonitorRecord :=
  if (s.corner c).state.isHeld = true ∧ s.tables.active.clampCurrent c (s.corner c).target ≠ (s.corner c).target then
    { s.monitorOf c with settle := s.tables.active.settleCount, deviation := 0, stuck := 0 }
  else s.monitorOf c

theorem monitorOf_swapCorner (c d : Corner) (s : State) :
    (swapCorner c s).monitorOf d = if d = c then clampedItems s c else s.monitorOf d := by
  unfold swapCorner clampedItems
  dsimp only
  by_cases hheld : (s.corner c).state.isHeld = true
  · rw [if_pos hheld, monitorOf_retarget]
    by_cases hd : d = c
    · subst hd
      simp [hheld]
    · simp [hd]
  · rw [if_neg hheld]
    have hkept : (s.setCorner c { s.corner c with target := s.tables.active.clampCurrent c (s.corner c).target }).monitorOf d =
      s.monitorOf d := rfl
    rw [hkept]
    by_cases hd : d = c
    · subst hd
      simp [hheld]
    · simp [hd]

theorem clampedItems_of {s t : State} {c : Corner} (hboth : t.both c = s.both c) (htables : t.tables = s.tables) :
    clampedItems t c = clampedItems s c := by
  obtain ⟨hcorner, hmonitor⟩ := Prod.mk.inj hboth
  rw [clampedItems, clampedItems, hcorner, hmonitor, htables]

theorem monitorOf_swapDrive {o : Tables} {s : State} (hchanged : o.active.t4 ≠ s.tables.active.t4) (c : Corner) :
    (swapDrive o s).monitorOf c = clampedItems s c := by
  unfold swapDrive
  rw [if_neg hchanged]
  obtain ⟨s', htables, hboth, hfold⟩ := foldl_corner_at State.both (fun s' c => swapCorner c s')
    (fun s c d hd => by rw [State.both, corner_swapCorner, monitorOf_swapCorner, if_neg hd, if_neg hd]; rfl)
    (fun s' => s'.tables = s.tables) (fun s' c hs => by simpa using hs)
    corners corners_nodup s rfl c (mem_corners c)
  refine (Prod.mk.inj hfold).2.trans ?_
  rw [monitorOf_swapCorner, if_pos rfl]
  exact clampedItems_of hboth htables

theorem staggered_swapDrive {o : Tables} {s : State} (hchanged : o.active.t4 ≠ s.tables.active.t4) (c : Corner) :
    (swapDrive o s).drive.staggered.get c =
      (s.drive.staggered.get c).map fun h => { h with target := s.tables.active.clampCurrent c h.target } := by
  unfold swapDrive
  rw [if_neg hchanged]
  have hkept : (corners.foldl (fun s' c => swapCorner c s') s).drive.staggered = s.drive.staggered :=
    foldl_keeps (fun t : State => t.drive.staggered) _ (fun t c => by simp) _ _
  simp [hkept, clampStaggered]

theorem monitorOf_swapMonitor (o : Tables) (s : State) (c : Corner) :
    (swapMonitor o s).monitorOf c = settleLowered o.active s.tables.active (s.monitorOf c) := by
  unfold swapMonitor settleLowered
  split
  · simp [State.monitorOf]
  · rfl

/-- The drive records and monitor items after a swap whose supply judgement closes no gate. -/
theorem recordsSwapped {o : Tables} {s x : State} (hdrive : x.drive = (swapDrive o s).drive)
    (hmonitor : x.monitor = (swapDrive o s).monitor) (htables : x.tables = s.tables) :
    RecordsSwapped s (swapMonitor o x) o.active s.tables.active := by
  have hdrive' : (swapMonitor o x).drive = (swapDrive o s).drive := by simpa using hdrive
  have hitems (c : Corner) : (swapMonitor o x).monitorOf c =
      settleLowered o.active s.tables.active ((swapDrive o s).monitorOf c) := by
    rw [monitorOf_swapMonitor, htables, monitorOf_of_monitor hmonitor]
  have hrecord (c : Corner) : (swapMonitor o x).corner c = (swapDrive o s).corner c := corner_of_drive hdrive' c
  refine ⟨by rw [hdrive']; simp, by rw [hdrive']; simp, fun hsame => ?_, fun hchanged c => ?_⟩
  · have hsettle : ¬ x.tables.active.settleCount < o.active.settleCount := by
      rw [htables, Bank.settleCount, Bank.settleCount, hsame]
      exact lt_irrefl _
    have hkept : swapDrive o s = s := if_pos hsame
    rw [swapMonitor, if_neg hsettle, hdrive, hmonitor, hkept]
    exact ⟨rfl, rfl⟩
  · refine ⟨?_, fun hheld => ⟨?_, ?_⟩, fun hnot => ⟨?_, ?_⟩⟩
    · rw [hdrive']
      exact staggered_swapDrive hchanged c
    · rw [hrecord, corner_swapDrive hchanged, swappedRecord, if_pos hheld]
      rfl
    · rw [hitems, monitorOf_swapDrive hchanged, clampedItems]
      by_cases hmoved : s.tables.active.clampCurrent c (s.corner c).target = (s.corner c).target
      · rw [if_neg fun h => h.2 hmoved]
        exact (if_pos hmoved).symm
      · rw [if_pos ⟨hheld, hmoved⟩]
        refine Eq.trans ?_ (if_neg hmoved).symm
        simp [settleLowered]
    · rw [hrecord, corner_swapDrive hchanged, swappedRecord, if_neg (by simp [hnot])]
      rfl
    · rw [hitems, monitorOf_swapDrive hchanged, clampedItems, if_neg (by simp [hnot])]

/-! ### The Supply Monitor's side effect (R142) -/

/-- Whether a swap has the latest sample judged again. -/
def SameSupply (a b : Bank) : Prop := a.vLow = b.vLow ∧ a.vCut = b.vCut

section
variable {o : Tables} {s : State}

theorem swapSupply_same (h : SameSupply o.active s.tables.active) : swapSupply o s = s := if_pos h

theorem swapSupply_changed (h : ¬ SameSupply o.active s.tables.active) : swapSupply o s = judgeCut (judgeLow s) := if_neg h

theorem judgeCut_above (h : ¬ s.supply.sample < s.tables.active.vCut) : judgeCut s = s := if_neg h

theorem judgeCut_below (h : s.supply.sample < s.tables.active.vCut) :
    judgeCut s = closeGate .supplyCut (setFlag .supplyCut s) := if_pos h

theorem judgeCut_isSet (s : State) {g : Flag} (hg : g ≠ .insertLost) :
    g.isSet (judgeCut s).mgmt.flags =
      (g.isSet s.mgmt.flags || (decide (g = .supplyCut) && decide (s.supply.sample < s.tables.active.vCut))) := by
  by_cases h : s.supply.sample < s.tables.active.vCut
  · rw [judgeCut_below h, closeGate_isSet _ _ hg, setFlag_isSet, decide_eq_true h, Bool.and_true]
  · rw [judgeCut_above h, decide_eq_false h, Bool.and_false, Bool.or_false]

theorem supplyJudgedAgain_swapSupply (o : Tables) (s : State) :
    SupplyJudgedAgain s (swapSupply o s) o.active s.tables.active := by
  refine ⟨by simp, fun hlow hcut => ?_, fun hchanged => ?_⟩
  · rw [swapSupply_same ⟨hlow, hcut⟩]
    exact ⟨rfl, rfl, rfl⟩
  · have hjudged : ¬ SameSupply o.active s.tables.active := fun ⟨hlow, hcut⟩ => by tauto
    rw [swapSupply_changed hjudged]
    obtain ⟨hbelow, hbetween, habove⟩ := judgeLow_low s
    rw [show (judgeCut (judgeLow s)).supply = (judgeLow s).supply by simp]
    refine ⟨hbelow, hbetween, habove, ?_, ?_⟩
    · rw [judgeCut_isSet _ (by decide), judgeLow_isSet]
      simp
    · rw [judgeCut_isSet _ (by decide), judgeLow_isSet]
      simp

theorem SupplyJudgedAgain.of_agree {s' t t' : State} {a b : Bank} (h : SupplyJudgedAgain s t a b)
    (hs : s'.supply = s.supply) (ht : t'.supply = t.supply)
    (hsl : Flag.supplyLow.isSet s'.mgmt.flags = Flag.supplyLow.isSet s.mgmt.flags)
    (hsc : Flag.supplyCut.isSet s'.mgmt.flags = Flag.supplyCut.isSet s.mgmt.flags)
    (htl : Flag.supplyLow.isSet t'.mgmt.flags = Flag.supplyLow.isSet t.mgmt.flags)
    (htc : Flag.supplyCut.isSet t'.mgmt.flags = Flag.supplyCut.isSet t.mgmt.flags) : SupplyJudgedAgain s' t' a b := by
  simpa only [SupplyJudgedAgain, hs, ht, hsl, hsc, htl, htc] using h

/-- The judgement of a swap closes no gate that is CLOSED, and none while the sample is not below a new V_cut. -/
theorem swapSupply_keeps
    (h : s.gate.isOpen = false ∨ SameSupply o.active s.tables.active ∨ s.tables.active.vCut ≤ s.supply.sample) :
    (swapSupply o s).drive = s.drive ∧ (swapSupply o s).monitor = s.monitor ∧ (swapSupply o s).gate = s.gate := by
  by_cases hsame : SameSupply o.active s.tables.active
  · rw [swapSupply_same hsame]
    exact ⟨rfl, rfl, rfl⟩
  · rw [swapSupply_changed hsame]
    by_cases hcut : (judgeLow s).supply.sample < (judgeLow s).tables.active.vCut
    · rw [judgeCut_below hcut]
      have hclosed : (setFlag .supplyCut (judgeLow s)).gate.isOpen = false := by
        simp only [judgeLow_frame] at hcut
        have hgate : s.gate.isOpen = false := h.resolve_right fun h => h.elim hsame (Nat.not_le.mpr hcut)
        simpa using hgate
      rw [closeGate_closed _ hclosed]
      simp
    · rw [judgeCut_above hcut]
      simp

/-- The judgement of a swap closes an OPEN gate whose new V_cut lies above the sample. -/
theorem swapSupply_cuts (hopen : s.gate.isOpen = true) (hchanged : ¬ SameSupply o.active s.tables.active)
    (hcut : s.supply.sample < s.tables.active.vCut) :
    DrivesSwitchedOff s (swapSupply o s) ∧ (swapSupply o s).gate = { isOpen := false, cause := .supplyCut } := by
  have hopen' : (setFlag .supplyCut (judgeLow s)).gate.isOpen = true := by simpa using hopen
  rw [swapSupply_changed hchanged, judgeCut_below (by simpa using hcut)]
  obtain ⟨-, -, -, hgate⟩ := closeGate_lists .supplyCut hopen'
  exact ⟨(closeGate_drivesSwitchedOff .supplyCut hopen').of_agree (by simp) (by simp) (by simp), hgate⟩

theorem swapSupply_flags (o : Tables) (s : State) :
    FlagsKept [.supplyLow, .supplyCut, .insertLost] s (swapSupply o s) := by
  unfold swapSupply
  split
  · exact .of_agree rfl
  · exact flagsKept_judgeSupply s

theorem swapSupply_link (hnone : NoTest s) (o : Tables) :
    (swapSupply o s).link = s.link ∧ (swapSupply o s).mgmt.executing = s.mgmt.executing := by
  by_cases hsame : SameSupply o.active s.tables.active
  · rw [swapSupply_same hsame]
    exact ⟨rfl, rfl⟩
  · rw [swapSupply_changed hsame]
    by_cases hcut : (judgeLow s).supply.sample < (judgeLow s).tables.active.vCut
    · have hlow : NoTest (setFlag .supplyCut (judgeLow s)) := NoTest.of_monitor hnone (by simp)
      obtain ⟨hlink, hmgmt⟩ := closeGate_of_noTest .supplyCut hlow
      rw [judgeCut_below hcut, hlink, hmgmt]
      simp
    · rw [judgeCut_above hcut]
      simp

end

end Sys2Proof.Machine

/-! A whole swap (R157): what its blocks together make of the state; the swap at a COMMIT with no source selected (R158). -/

namespace Sys2Proof.Machine

/-! ### The selection re-evaluated (R5 to R7) -/

/-- The re-evaluation moves the selection to another source. -/
def selectionMoves (t : Timing) : Bool :=
  decide (selectionOf t.sources ≠ t.selected) && (selectionOf t.sources).isSome

/-- The re-evaluation loses the selected source. -/
def selectionLost (t : Timing) : Bool := decide (selectionOf t.sources ≠ t.selected) && (selectionOf t.sources).isNone

/-- Cycle Timing once the selection has been re-evaluated. -/
def retimed (t : Timing) : Timing :=
  { t with
    selected := selectionOf t.sources
    baseline := if selectionMoves t then none else t.baseline
    holdRequest := t.holdRequest || selectionMoves t }

/-- What a re-evaluation makes of a state where it answers no request. -/
structure Reselected (x v : State) : Prop where
  timing : v.timing = retimed x.timing
  link : v.link = x.link
  engine : v.engine = x.engine
  executing : v.mgmt.executing = x.mgmt.executing
  switch : Flag.sourceSwitch.isSet v.mgmt.flags = (Flag.sourceSwitch.isSet x.mgmt.flags || selectionMoves x.timing)
  lost : Flag.marksSilent.isSet v.mgmt.flags = (Flag.marksSilent.isSet x.mgmt.flags || selectionLost x.timing)
  flags : FlagsKept [.sourceSwitch, .marksSilent] x v
  open_ : x.gate.isOpen = false ∨ selectionLost x.timing = false →
    v.drive = x.drive ∧ v.monitor = x.monitor ∧ v.gate = x.gate

section
variable {x : State}

theorem reselected_same (h : selectionOf x.timing.sources = x.timing.selected) : Reselected x (reselect x) := by
  have hkept : reselect x = x := if_pos h
  have hmoves : selectionMoves x.timing = false := by simp [selectionMoves, h]
  have hlost : selectionLost x.timing = false := by simp [selectionLost, h]
  rw [hkept]
  refine ⟨?_, rfl, rfl, rfl, by rw [hmoves, Bool.or_false], by rw [hlost, Bool.or_false], .of_agree rfl,
    fun _ => ⟨rfl, rfl, rfl⟩⟩
  rw [retimed, hmoves, h, Bool.or_false]
  rfl

theorem reselected_moved {src : Source} (hne : selectionOf x.timing.sources ≠ x.timing.selected)
    (hsome : selectionOf x.timing.sources = some src) : Reselected x (reselect x) := by
  have hselects : reselect x = selectSource src x := by
    rw [reselect, if_neg hne]
    simp only [hsome]
  have hmoves : selectionMoves x.timing = true := by
    rw [selectionMoves, decide_eq_true hne, hsome]
    rfl
  have hlost : selectionLost x.timing = false := by simp [selectionLost, hsome]
  rw [hselects]
  refine ⟨?_, by simp, by simp, by simp, ?_, ?_, (timingMoved_selectSource src x).flags.mono, fun _ => by simp⟩
  · rw [retimed, hmoves, hsome, Bool.or_true]
    rfl
  · rw [hmoves, Bool.or_true, selectSource, setFlag_isSet]
    simp
  · rw [hlost, Bool.or_false, (timingMoved_selectSource src x).flags .marksSilent (by decide)]

theorem reselected_lost (hne : selectionOf x.timing.sources ≠ x.timing.selected)
    (hnone : selectionOf x.timing.sources = none) (htest : NoTest x) (hprogramme : x.engine.pendingProgramme = none) :
    Reselected x (reselect x) := by
  have hloses : reselect x = closeForSilence { x with timing := { x.timing with selected := none } } := by
    rw [reselect, if_neg hne]
    simp only [hnone, loseSource, applyProgramme]
    rw [show (closeForSilence { x with timing := { x.timing with selected := none } }).engine.pendingProgramme = none by
      simpa using hprogramme]
  have hmoves : selectionMoves x.timing = false := by simp [selectionMoves, hnone]
  have hlost : selectionLost x.timing = true := by
    rw [selectionLost, decide_eq_true hne, hnone]
    rfl
  have hflags := flagsKept_closeGate .marksSilent { x with timing := { x.timing with selected := none } }
  obtain ⟨hlink, hmgmt⟩ := closeGate_of_noTest .marksSilent (s := { x with timing := { x.timing with selected := none } }) htest
  rw [hloses]
  refine ⟨?_, ?_, by simp, ?_, ?_, ?_, ?_, fun h => ?_⟩
  · rw [retimed, hmoves, hnone, Bool.or_false]
    simp
  · rw [closeForSilence, setFlag_link, hlink]
  · have hkept := congrArg Mgmt.executing hmgmt
    exact hkept
  · rw [closeForSilence, setFlag_isSet, hmgmt, hmoves]
    rfl
  · rw [closeForSilence, setFlag_isSet, hmgmt, hlost]
    rfl
  · have hkept : FlagsKept [.sourceSwitch, .marksSilent] x (closeGate .marksSilent
        { x with timing := { x.timing with selected := none } }) := .of_agree (congrArg Mgmt.flags hmgmt)
    exact hkept.trans (flagsKept_setFlag .marksSilent _).mono
  · have hclosed : x.gate.isOpen = false := h.resolve_right (by simp [hlost])
    rw [closeForSilence, closeGate_closed .marksSilent (by exact hclosed)]
    exact ⟨rfl, rfl, rfl⟩

/-- A re-evaluation answers no request where no test runs and no programme is pending, or where nothing changes. -/
theorem reselected (h : selectionOf x.timing.sources = x.timing.selected ∨
    (NoTest x ∧ x.engine.pendingProgramme = none)) : Reselected x (reselect x) := by
  by_cases hsame : selectionOf x.timing.sources = x.timing.selected
  · exact reselected_same hsame
  · obtain ⟨htest, hprogramme⟩ := h.resolve_left hsame
    cases hselects : selectionOf x.timing.sources with
    | none => exact reselected_lost hsame hselects htest hprogramme
    | some src => exact reselected_moved hsame hselects

end

/-! ### The swap up to the Drive Unit -/

/-- The source states after a swap: a source whose ident changes becomes SILENT (R4). -/
def swappedSources (s : State) : PerSource SourceState :=
  { a := if s.tables.active.identA = s.tables.staged.identA then s.timing.sources.a else .silent
    b := if s.tables.active.identB = s.tables.staged.identB then s.timing.sources.b else .silent }

/-- Cycle Timing once the swap has stopped the timers of changed idents (R4). -/
def resourced (s : State) : Timing := { s.timing with sources := swappedSources s }

/-- The state of a swap with the banks swapped, the changed rows aged and the changed idents' timers stopped. -/
def beforeSelection (s : State) : State := (swapCapture s.tables (copyStaged s)).setSources (swappedSources s)

/-- The state of a swap before the Drive Unit's side effects. -/
def beforeDrive (s : State) : State := swapPreview s.tables (reselect (beforeSelection s))

section
variable {s : State}

theorem performSwap_eq (s : State) :
    performSwap s = swapMonitor s.tables (swapSupply s.tables (swapDrive s.tables (beforeDrive s))) := rfl

@[simp] theorem beforeSelection_frame (s : State) :
    (beforeSelection s).link = s.link ∧ (beforeSelection s).timing = resourced s ∧ (beforeSelection s).engine = s.engine ∧
    (beforeSelection s).tables = s.tables.swapped ∧ (beforeSelection s).drive = s.drive ∧
    (beforeSelection s).monitor = s.monitor ∧ (beforeSelection s).supply = s.supply ∧ (beforeSelection s).gate = s.gate ∧
    (beforeSelection s).mgmt = s.mgmt :=
  ⟨rfl, rfl, rfl, rfl, rfl, rfl, rfl, rfl, rfl⟩

theorem beforeSelection_live (s : State) (g : Signal) :
    (beforeSelection s).capture.live.get g =
      { s.capture.live.get g with
        age := if s.tables.row g = s.tables.staged.row g then (s.capture.live.get g).age else 255 } := by
  have hget : (beforeSelection s).capture.live.get g =
      if s.tables.row g = s.tables.staged.row g then s.capture.live.get g
      else { s.capture.live.get g with age := 255 } := by
    cases g <;> rfl
  rw [hget]
  split
  · rfl
  · rfl

/-- Where a swap answers no request: nothing is re-evaluated, or no test runs and no programme is pending. -/
def SwapAnswersNone (s : State) : Prop :=
  selectionOf (swappedSources s) = s.timing.selected ∨ (NoTest s ∧ s.engine.pendingProgramme = none)

theorem SwapAnswersNone.reselected (h : SwapAnswersNone s) : Reselected (beforeSelection s) (reselect (beforeSelection s)) :=
  Machine.reselected (h.imp id fun ⟨htest, hprogramme⟩ => ⟨htest, hprogramme⟩)

@[simp] theorem beforeDrive_tables (s : State) : (beforeDrive s).tables = s.tables.swapped := by simp [beforeDrive]

@[simp] theorem beforeDrive_supply (s : State) : (beforeDrive s).supply = s.supply := by simp [beforeDrive]

theorem performSwap_live (s : State) (g : Signal) :
    (performSwap s).capture.live.get g =
      { s.capture.live.get g with
        age := if s.tables.row g = s.tables.staged.row g then (s.capture.live.get g).age else 255 } := by
  rw [← beforeSelection_live]
  simp [performSwap_eq, beforeDrive]

theorem performSwap_timing (h : SwapAnswersNone s) : (performSwap s).timing = retimed (resourced s) := by
  have htiming := h.reselected.timing
  rw [performSwap_eq]
  simpa [beforeDrive] using htiming

theorem performSwap_engine (h : SwapAnswersNone s) :
    (SamePreview s.tables.active s.tables.staged → (performSwap s).engine = s.engine) ∧
      (¬ SamePreview s.tables.active s.tables.staged →
        (s.engine.computing = none → (performSwap s).engine = { s.engine with queue := [], sides := ⟨.armed, .armed⟩ }) ∧
        (s.engine.computing ≠ none → (performSwap s).engine = { s.engine with flushOwed := true })) := by
  have hengine : (reselect (beforeSelection s)).engine = s.engine := h.reselected.engine
  have hactive : (reselect (beforeSelection s)).tables.active = s.tables.staged := by simp [Tables.swapped]
  have hmade : (performSwap s).engine = (swapPreview s.tables (reselect (beforeSelection s))).engine := by
    simp [performSwap_eq, beforeDrive]
  rw [hmade]
  refine ⟨fun hsame => ?_, fun hchanged => ⟨fun hidle => ?_, fun hcomputing => ?_⟩⟩
  · rw [swapPreview_engine_same (by rwa [hactive]), hengine]
  · rw [swapPreview_engine_idle (by rwa [hactive]) (by rwa [hengine]), hengine]
  · rw [swapPreview_engine_computing (by rwa [hactive]) (by rwa [hengine]), hengine]

theorem beforeDrive_flags (h : SwapAnswersNone s) : FlagsKept [.sourceSwitch, .marksSilent] s (beforeDrive s) :=
  FlagsKept.trans (t := reselect (beforeSelection s)) h.reselected.flags (.of_agree (by simp [beforeDrive]))

theorem performSwap_later_flags (s : State) :
    FlagsKept [.supplyLow, .supplyCut, .insertLost] (beforeDrive s) (performSwap s) := by
  rw [performSwap_eq]
  have hdrive : FlagsKept [.supplyLow, .supplyCut, .insertLost] (beforeDrive s) (swapDrive s.tables (beforeDrive s)) :=
    .of_agree (by simp)
  exact (hdrive.trans (swapSupply_flags s.tables _)).trans (.of_agree (by simp))

theorem performSwap_sourceSwitch (h : SwapAnswersNone s) :
    Flag.sourceSwitch.isSet (performSwap s).mgmt.flags =
      (Flag.sourceSwitch.isSet s.mgmt.flags || selectionMoves (resourced s)) := by
  rw [performSwap_later_flags s .sourceSwitch (by decide), show (beforeDrive s).mgmt = (reselect (beforeSelection s)).mgmt by
    simp [beforeDrive], h.reselected.switch]
  rfl

theorem performSwap_marksSilent (h : SwapAnswersNone s) :
    Flag.marksSilent.isSet (performSwap s).mgmt.flags =
      (Flag.marksSilent.isSet s.mgmt.flags || selectionLost (resourced s)) := by
  rw [performSwap_later_flags s .marksSilent (by decide), show (beforeDrive s).mgmt = (reselect (beforeSelection s)).mgmt by
    simp [beforeDrive], h.reselected.lost]
  rfl

theorem performSwap_supply (h : SwapAnswersNone s) :
    SupplyJudgedAgain s (performSwap s) s.tables.active s.tables.staged := by
  have hjudged := supplyJudgedAgain_swapSupply s.tables (swapDrive s.tables (beforeDrive s))
  have hactive : (swapDrive s.tables (beforeDrive s)).tables.active = s.tables.staged := by simp [Tables.swapped]
  have hkept := beforeDrive_flags h
  rw [hactive] at hjudged
  rw [performSwap_eq]
  refine hjudged.of_agree (by simp) (by simp) ?_ ?_ (by simp) (by simp)
  · rw [← hkept .supplyLow (by decide)]
    simp
  · rw [← hkept .supplyCut (by decide)]
    simp

/-- The drives, the monitor items and the gate before the Drive Unit's side effects, where no source is lost with an OPEN
gate. -/
theorem beforeDrive_keeps (h : SwapAnswersNone s) (hkeeps : s.gate.isOpen = false ∨ selectionLost (resourced s) = false) :
    (beforeDrive s).drive = s.drive ∧ (beforeDrive s).monitor = s.monitor ∧ (beforeDrive s).gate = s.gate := by
  obtain ⟨hdrive, hmonitor, hgate⟩ := h.reselected.open_ hkeeps
  rw [beforeDrive]
  simpa using ⟨hdrive, hmonitor, hgate⟩

theorem RecordsSwapped.of_agree {s' t : State} {a b : Bank} (h : RecordsSwapped s' t a b) (hdrive : s'.drive = s.drive)
    (hmonitor : s'.monitor = s.monitor) (hsupply : s'.supply = s.supply) : RecordsSwapped s t a b := by
  simpa only [RecordsSwapped, corner_of_drive hdrive, monitorOf_of_monitor hmonitor, hdrive, hmonitor, hsupply] using h

/-- A swap that closes no gate clamps the targets and judges the settle count. -/
theorem performSwap_records (h : SwapAnswersNone s) (hkeeps : s.gate.isOpen = false ∨ selectionLost (resourced s) = false)
    (hcut : s.gate.isOpen = false ∨ SameSupply s.tables.active s.tables.staged ∨ s.tables.staged.vCut ≤ s.supply.sample) :
    RecordsSwapped s (performSwap s) s.tables.active s.tables.staged ∧ (performSwap s).gate = s.gate := by
  obtain ⟨hdrive, hmonitor, hgate⟩ := beforeDrive_keeps h hkeeps
  have hactive : (beforeDrive s).tables.active = s.tables.staged := by simp [Tables.swapped]
  obtain ⟨hdrive', hmonitor', hgate'⟩ := swapSupply_keeps (o := s.tables) (s := swapDrive s.tables (beforeDrive s))
    (by simpa [hgate, Tables.swapped] using hcut)
  have hrecords := recordsSwapped (o := s.tables) (s := beforeDrive s) hdrive' hmonitor' (by simp)
  rw [hactive] at hrecords
  rw [performSwap_eq]
  exact ⟨hrecords.of_agree hdrive hmonitor (by simp), by simp [hgate', hgate]⟩

end

/-! ### The swap at a COMMIT with no source selected (R158) -/

theorem retimed_same {t : Timing} (h : selectionOf t.sources = t.selected) : retimed t = t := by
  have hmoves : selectionMoves t = false := by simp [selectionMoves, h]
  rw [retimed, hmoves, h, Bool.or_false]
  rfl

section
variable {s : State}

/-- SILENT sources stay SILENT at a swap. -/
theorem swappedSources_silent (hsilent : selectionOf s.timing.sources = none) : swappedSources s = s.timing.sources := by
  unfold swappedSources
  rcases hsources : s.timing.sources with ⟨_ | _, _ | _⟩ <;> rw [hsources] at hsilent
  · simp
  all_goals cases hsilent

/-- A swap that leaves the selection sets no flag of Cycle Timing. -/
theorem performSwap_flags_of_same (h : selectionOf (swappedSources s) = s.timing.selected) :
    FlagsKept [.supplyLow, .supplyCut, .insertLost] s (performSwap s) := by
  have hkept : reselect (beforeSelection s) = beforeSelection s := if_pos h
  have hbefore : (beforeDrive s).mgmt.flags = s.mgmt.flags := by simp [beforeDrive, hkept]
  exact FlagsKept.trans (t := beforeDrive s) (.of_agree hbefore) (performSwap_later_flags s)

/-- A swap on drives of which none is held: every target clamped, the settle count lowered. -/
theorem RecordsSwapped.of_not_held {t : State} {a b : Bank} (h : RecordsSwapped s t a b)
    (hnot : ∀ c, (s.corner c).state.isHeld = false) (hsettle : a.t4 = b.t4 → a.settleCount = b.settleCount) :
    (∀ c, t.monitorOf c = settleLowered a b (s.monitorOf c)) ∧
      (a.t4 ≠ b.t4 → ∀ c, t.corner c = { s.corner c with target := b.clampCurrent c (s.corner c).target } ∧
        t.drive.staggered.get c =
          (s.drive.staggered.get c).map fun h => { h with target := b.clampCurrent c h.target }) := by
  obtain ⟨-, -, hsame, hchanged⟩ := h
  refine ⟨fun c => ?_, fun ht4 c => ?_⟩
  · by_cases ht4 : a.t4 = b.t4
    · obtain ⟨-, hmonitor⟩ := hsame ht4
      rw [monitorOf_of_monitor hmonitor, settleLowered, if_neg (by rw [hsettle ht4]; exact lt_irrefl _)]
    · obtain ⟨-, -, hitems⟩ := hchanged ht4 c
      obtain ⟨-, hmonitor⟩ := hitems (hnot c)
      exact hmonitor
  · obtain ⟨hstaggered, -, hitems⟩ := hchanged ht4 c
    obtain ⟨hcorner, -⟩ := hitems (hnot c)
    exact ⟨hcorner, hstaggered⟩

end

theorem settleCount_of_t4 {a b : Bank} (h : a.t4 = b.t4) : a.settleCount = b.settleCount := congrArg (wordAt · 15) h

theorem isHeld_of_off_or_fault {d : DriveState} (h : d = .off ∨ d = .fault) : d.isHeld = false := by
  rcases h with rfl | rfl <;> rfl

/-- Settles O43: the swap block by block, on drives that a CLOSED gate holds in OFF or FAULT. -/
theorem swapsApplyTheirSideEffects : Obligations.SwapsApplyTheirSideEffects := by
  intro s r rest hat hinv hclosed hunselected hselection hvalid
  obtain ⟨-, hgateLaw, -⟩ := hinv
  have hsilent : selectionOf s.timing.sources = none := hselection.symm.trans hunselected
  have hsources : swappedSources (leaveQueue s rest) = s.timing.sources := swappedSources_silent hsilent
  have hsame : selectionOf (swappedSources (leaveQueue s rest)) = (leaveQueue s rest).timing.selected := by
    rw [hsources]
    exact hselection.symm
  have hexec : exec .commit s = .next (answer r .ok [] (performSwap (leaveQueue s rest))) := by
    rw [exec_commit hat, doCommit]
    have hpasses : validate (leaveQueue s rest).tables.staged (leaveQueue s rest).tables.active
        (leaveQueue s rest).gate.isOpen = none := by
      rw [← hvalid, ← hclosed]
      rfl
    rw [hpasses]
    exact congrArg _ (if_pos hunselected)
  have htiming : (performSwap (leaveQueue s rest)).timing = s.timing := by
    have hresourced : resourced (leaveQueue s rest) = s.timing := by
      rw [resourced, hsources]
      rfl
    rw [performSwap_timing (.inl hsame), hresourced, retimed_same hselection.symm]
  obtain ⟨hrecords, hgate⟩ := performSwap_records (.inl hsame) (.inl hclosed) (.inl hclosed)
  obtain ⟨hitems, hclamped⟩ :=
    hrecords.of_not_held (fun c => isHeld_of_off_or_fault (hgateLaw hclosed c)) settleCount_of_t4
  obtain ⟨-, -, hsameT4, -⟩ := hrecords
  obtain ⟨hengineSame, hengineChanged⟩ := performSwap_engine (.inl hsame)
  have hanswered := flagsKept_answer r .ok [] (performSwap (leaveQueue s rest))
  obtain ⟨-, -, hcapture, htiming', hengine, htables, hdrive, hmonitor, hsupply, hgate', -⟩ :=
    answer_frame r .ok [] (performSwap (leaveQueue s rest))
  refine ⟨_, hexec, ?_, fun g => ?_, htiming'.trans htiming, hgate'.trans hgate, ?_, ?_, fun c => ?_, fun ht4 => ?_,
    fun ht4 c => ?_, fun hpreview hwheelbase => ?_, fun hchanged => ?_⟩
  · rw [htables, performSwap_tables]
    rfl
  · rw [hcapture]
    exact performSwap_live (leaveQueue s rest) g
  · exact (performSwap_supply (.inl hsame)).of_agree rfl hsupply rfl rfl (hanswered .supplyLow (by decide))
      (hanswered .supplyCut (by decide))
  · exact FlagsKept.trans (s := s) (t := performSwap (leaveQueue s rest)) (performSwap_flags_of_same hsame) hanswered.mono
  · rw [monitorOf_of_monitor hmonitor]
    exact hitems c
  · rw [hdrive]
    exact (hsameT4 ht4).1
  · rw [corner_of_drive hdrive, hdrive]
    exact hclamped ht4 c
  · rw [hengine]
    exact hengineSame ⟨hpreview, hwheelbase⟩
  · have hnot : ¬ SamePreview s.tables.active s.tables.staged := fun ⟨hpreview, hwheelbase⟩ => by tauto
    rw [hengine]
    exact hengineChanged hnot

end Sys2Proof.Machine

/-! Marks served with a COMMIT pending (R13, R159), and the statements of the marks (R1 to R10, R54). -/

namespace Sys2Proof.Machine

/-! ### The one reply of a served mark -/

/-- No test runs, and this request is still in execution with nothing answered since `b`, or has been answered OK. -/
structure OkOwed (r : Request) (b x : State) : Prop where
  noTest : NoTest x
  owed : (x.link = b.link ∧ x.mgmt.executing = some r) ∨
    (x.link = (answer r .ok [] b).link ∧ x.mgmt.executing = none)

section
variable {r : Request} {b x y : State}

theorem OkOwed.of_agree (h : OkOwed r b x) (hmonitor : y.monitor = x.monitor := by simp)
    (hlink : y.link = x.link := by simp) (hexecuting : y.mgmt.executing = x.mgmt.executing := by simp) : OkOwed r b y :=
  ⟨h.noTest.of_monitor hmonitor, by rw [hlink, hexecuting]; exact h.owed⟩

theorem OkOwed.closeGate (h : OkOwed r b x) (cause : CloseCause) : OkOwed r b (closeGate cause x) := by
  obtain ⟨hlink, hmgmt⟩ := closeGate_of_noTest cause h.noTest
  exact ⟨noTest_closeGate h.noTest cause, by rw [hlink, hmgmt]; exact h.owed⟩

/-- Ending the request answers it, once. -/
theorem OkOwed.endExecuting (h : OkOwed r b x) :
    OkOwed r b (endExecuting .ok [] x) ∧ (endExecuting .ok [] x).link = (answer r .ok [] b).link := by
  have hnone : NoTest (Machine.endExecuting .ok [] x) := h.noTest.of_monitor (by simp)
  rcases h.owed with ⟨hlink, hexecuting⟩ | ⟨hlink, hexecuting⟩
  · have hanswered : (Machine.endExecuting .ok [] x).link = (answer r .ok [] b).link := by
      rw [endExecuting_some .ok [] hexecuting]
      exact answer_link_of _ _ _ hlink
    exact ⟨⟨hnone, .inr ⟨hanswered, by simp⟩⟩, hanswered⟩
  · rw [endExecuting_none .ok [] hexecuting]
    exact ⟨h, hlink⟩

theorem OkOwed.applyProgramme (h : OkOwed r b x) : OkOwed r b (applyProgramme x) := by
  unfold Machine.applyProgramme
  split
  · exact h
  · rename_i g _
    exact (h.of_agree (y := { x with engine := { x.engine with programme := g, pendingProgramme := none } })
      rfl rfl rfl).endExecuting.1

theorem OkOwed.closeForSilence (h : OkOwed r b x) : OkOwed r b (closeForSilence x) :=
  OkOwed.of_agree (x := Machine.closeGate .marksSilent x) (h.closeGate .marksSilent) rfl rfl rfl

theorem OkOwed.reselect (h : OkOwed r b x) : OkOwed r b (reselect x) := by
  unfold Machine.reselect
  split
  · exact h
  · split
    · exact h.of_agree
    · exact OkOwed.applyProgramme
        (OkOwed.closeForSilence (x := { x with timing := { x.timing with selected := none } }) (h.of_agree rfl rfl rfl))

theorem OkOwed.swapSupply (h : OkOwed r b x) (o : Tables) : OkOwed r b (swapSupply o x) := by
  unfold Machine.swapSupply Machine.judgeSupply judgeCut
  split
  · exact h
  · have hlow : OkOwed r b (judgeLow x) := h.of_agree
    split
    · exact OkOwed.closeGate (x := setFlag .supplyCut (judgeLow x)) hlow.of_agree _
    · exact hlow

theorem OkOwed.performSwap (h : OkOwed r b x) : OkOwed r b (performSwap x) := by
  have hselected : OkOwed r b (Machine.reselect (beforeSelection x)) :=
    OkOwed.reselect (h.of_agree rfl rfl rfl)
  have hbefore : OkOwed r b (beforeDrive x) := hselected.of_agree (by simp [beforeDrive]) (by simp [beforeDrive])
    (by simp [beforeDrive])
  have hdrive : OkOwed r b (swapDrive x.tables (beforeDrive x)) :=
    ⟨fun c => (test_swapDrive _ _ c).trans (hbefore.noTest c), by simpa using hbefore.owed⟩
  have hsupply := hdrive.swapSupply x.tables
  rw [performSwap_eq]
  exact ⟨fun c => (test_swapMonitor _ _ c).trans (hsupply.noTest c), by simpa using hsupply.owed⟩

end

/-! ### What a swap keeps of Cycle Timing whatever it answers -/

section
variable {x : State}

theorem reselect_counts (x : State) :
    (reselect x).timing.served = x.timing.served ∧ (reselect x).timing.reportPort = x.timing.reportPort := by
  unfold reselect
  split
  · exact ⟨rfl, rfl⟩
  · split
    · exact ⟨rfl, rfl⟩
    · simp [loseSource]

theorem performSwap_counts (x : State) :
    (performSwap x).timing.served = x.timing.served ∧ (performSwap x).timing.reportPort = x.timing.reportPort := by
  have hkept : (performSwap x).timing = (reselect (beforeSelection x)).timing := by simp [performSwap_eq, beforeDrive]
  rw [hkept]
  exact reselect_counts (beforeSelection x)

theorem reselect_keeps_sourceSwitch (h : Flag.sourceSwitch.isSet x.mgmt.flags = true) :
    Flag.sourceSwitch.isSet (reselect x).mgmt.flags = true := by
  unfold reselect
  split
  · exact h
  · split
    · rw [selectSource, setFlag_isSet]
      simp
    · have hkept := (flagsKept_closeForSilence { x with timing := { x.timing with selected := none } }).mono
        (fs := [.marksSilent, .insertLost]) |>.trans (flagsKept_applyProgramme _).mono
      exact (hkept .sourceSwitch (by decide)).trans h

theorem performSwap_keeps_sourceSwitch (h : Flag.sourceSwitch.isSet x.mgmt.flags = true) :
    Flag.sourceSwitch.isSet (performSwap x).mgmt.flags = true := by
  have hbefore : (beforeDrive x).mgmt = (reselect (beforeSelection x)).mgmt := by simp [beforeDrive]
  rw [performSwap_later_flags x .sourceSwitch (by decide), hbefore]
  exact reselect_keeps_sourceSwitch (x := beforeSelection x) h

theorem applyProgramme_executing (h : x.mgmt.executing = none) : (applyProgramme x).mgmt.executing = none := by
  unfold applyProgramme
  split
  · exact h
  · simp

end

/-! ### A mark served with a COMMIT pending -/

/-- The state on which the cycle starts once a pending COMMIT has been completed. -/
def committed (e : State) : State := applyProgramme (endExecuting .ok [] (performSwap e))

@[simp] theorem committed_frame (e : State) :
    (committed e).tables = e.tables.swapped ∧ (committed e).capture = (performSwap e).capture ∧
    (committed e).timing = (performSwap e).timing ∧ (committed e).drive = (performSwap e).drive ∧
    (committed e).monitor = (performSwap e).monitor ∧ (committed e).supply = (performSwap e).supply ∧
    (committed e).gate = (performSwap e).gate ∧ (committed e).mgmt.queue = e.mgmt.queue ∧
    (committed e).mgmt.captures = e.mgmt.captures ∧ (committed e).mgmt.executing = none := by
  refine ⟨?_, ?_, ?_, ?_, ?_, ?_, ?_, ?_, ?_, applyProgramme_executing (by simp)⟩ <;> simp [committed]

theorem committed_flags (e : State) : FlagsKept [.insertLost] (performSwap e) (committed e) :=
  (flagsKept_endExecuting .ok [] (performSwap e)).trans (flagsKept_applyProgramme _)

section
variable {p : Port} {ws : List Word} {o : Bool} {s m : State} {src : Source} {baseline : Option Word} {seq : Word} {k : Nat}
  {gap switched : Bool}

/-- The cycle of a mark that is served with a COMMIT pending starts on the new bank, a hold cycle. -/
theorem MarkTaken.commitServed (h : MarkTaken (beforeReading p ws o s) m src baseline switched)
    (hidle : s.engine.computing = none) (hcommit : s.tables.commitPending = true)
    (hjudged : judgeMark baseline seq = (some k, gap)) :
    examineMark p seq m =
      started k (cycleOn k seq (s.timing.served + 1) true (committed (toServe p seq gap m)))
        (decide ((performSwap (toServe p seq gap m)).timing.selected ≠ some src) &&
          (performSwap (toServe p seq gap m)).timing.selected.isSome) (committed (toServe p seq gap m)) := by
  have hon := h.servedOn (seq := seq) (gap := gap)
  have hselected : (toServe p seq gap m).timing.selected = some src := by rw [h.toServe_timing]
  have hbaseline : m.timing.baseline = baseline := by rw [h.timing]
  have hpending : (toServe p seq gap m).tables.commitPending = true := by rw [hon.tables, hcommit]
  have hcompleted : completeCommit (toServe p seq gap m) = endExecuting .ok [] (performSwap (toServe p seq gap m)) :=
    if_pos hpending
  rw [examineMark_served (by rw [h.engine]; simpa using hidle) (hbaseline ▸ hjudged), startCycle_eq, hcompleted, hpending,
    Bool.or_true, Bool.true_or, h.served, hselected]
  simp only [endExecuting_frame]
  rfl

end

end Sys2Proof.Machine

/-! The statements of the marks (R1 to R10, R13, R54, R159). -/

namespace Sys2Proof.Machine

/-! ### Reading a MARK frame (R1, R2) -/

theorem markSource_cases (m : Tables) (ident : Nat) :
    (m.activeValid = false → markSource m ident = none) ∧
      (m.activeValid = true →
        (ident = m.active.identA → markSource m ident = some .a) ∧
        (ident ≠ m.active.identA → m.active.identB ≠ 0 → ident = m.active.identB → markSource m ident = some .b) ∧
        (ident ≠ m.active.identA → m.active.identB = 0 ∨ ident ≠ m.active.identB → markSource m ident = none)) := by
  refine ⟨fun hinvalid => by simp [markSource, hinvalid], fun hvalid => ⟨fun ha => ?_, fun ha hb hident => ?_, fun ha hb => ?_⟩⟩
  · simp [markSource, hvalid, ha]
  · subst hident
    simp [markSource, hvalid, ha, hb]
  · have hnot : ¬ (m.active.identB ≠ 0 ∧ ident = m.active.identB) := by tauto
    simp [markSource, hvalid, ha, hnot]

section
variable {p : Port} {ws : List Word} {d w o : Bool} {s : State} {src : Source} {seq : Word} {more : List Word}

/-- A MARK frame that belongs to a source, received while no reset is in progress. -/
structure MarkOf (s : State) (ws : List Word) (d w : Bool) (src : Source) : Prop where
  running : s.resetInProgress = false
  check : passesCheck ws d w = true
  format : wellFormatted ws = true
  kind : headerKind (frameHeader ws) = 1#3
  source : markSource s.tables (headerIdent (frameHeader ws)) = some src

theorem exec_mark (hrun : s.resetInProgress = false) (hcheck : passesCheck ws d w = true)
    (hformat : wellFormatted ws = true) (hkind : headerKind (frameHeader ws) = 1#3) :
    exec (.receptionCompletion p ws d w o) s =
      .next (afterReading p ws o s (readMark p (headerIdent (frameHeader ws)) (framePayload ws) (beforeReading p ws o s))) := by
  have hread (t : State) : handOver p ws t = readMark p (headerIdent (frameHeader ws)) (framePayload ws) t := by
    rw [handOver, kindSample, kindMark, if_neg (by rw [hkind]; decide), if_pos hkind]
  rw [exec_receptionCompletion_read o hrun hcheck hformat (by rw [hkind]; decide), hread]

theorem exec_mark_empty (h : MarkOf s ws d w src) (hpayload : framePayload ws = []) :
    exec (.receptionCompletion p ws d w o) s =
      .next (afterReading p ws o s (markArrives src (beforeReading p ws o s))) := by
  have hsource : markSource (beforeReading p ws o s).tables (headerIdent (frameHeader ws)) = some src := by
    simpa using h.source
  rw [exec_mark h.running h.check h.format h.kind, readMark, hsource, hpayload]

theorem exec_mark_examined (h : MarkOf s ws d w src) (hpayload : framePayload ws = seq :: more)
    (hselected : (markArrives src (beforeReading p ws o s)).timing.selected = some src) :
    exec (.receptionCompletion p ws d w o) s =
      .next (afterReading p ws o s (examineMark p seq (markArrives src (beforeReading p ws o s)))) := by
  have hsource : markSource (beforeReading p ws o s).tables (headerIdent (frameHeader ws)) = some src := by
    simpa using h.source
  rw [exec_mark h.running h.check h.format h.kind, readMark, hsource, hpayload]
  exact congrArg _ (congrArg _ (if_pos hselected))

theorem exec_mark_unselected (h : MarkOf s ws d w src)
    (hselected : (markArrives src (beforeReading p ws o s)).timing.selected ≠ some src) :
    exec (.receptionCompletion p ws d w o) s =
      .next (afterReading p ws o s (markArrives src (beforeReading p ws o s))) := by
  cases hpayload : framePayload ws with
  | nil => exact exec_mark_empty h hpayload
  | cons seq more =>
    have hsource : markSource (beforeReading p ws o s).tables (headerIdent (frameHeader ws)) = some src := by
      simpa using h.source
    rw [exec_mark h.running h.check h.format h.kind, readMark, hsource, hpayload]
    exact congrArg _ (congrArg _ (if_neg hselected))

/-! ### Marks of an ALIVE source -/

theorem markTaken_of_alive {timeout : Nat} (p : Port) (ws : List Word) (o : Bool)
    (halive : s.timing.sources.get src = .alive timeout) (hselected : s.timing.selected = some src) :
    MarkTaken (beforeReading p ws o s) (markArrives src (beforeReading p ws o s)) src s.timing.baseline false := by
  have htaken := markTaken_alive (b := beforeReading p ws o s) (src := src) (timeout := timeout) (by simpa using halive)
    (by simpa using hselected)
  simpa only [beforeReading_frame] using htaken

theorem markArrives_of_alive {timeout : Nat} (p : Port) (ws : List Word) (o : Bool)
    (halive : s.timing.sources.get src = .alive timeout) :
    TimingMoved [] (beforeReading p ws o s) (markArrives src (beforeReading p ws o s)) ∧
      (markArrives src (beforeReading p ws o s)).timing =
        { s.timing with sources := s.timing.sources.set src (.alive s.tables.active.silenceTimeout) } := by
  rw [markArrives_alive (timeout := timeout) (by simpa using halive)]
  refine ⟨timingMoved_restartTimer [] src _, ?_⟩
  change ({ (beforeReading p ws o s).timing with
    sources := (beforeReading p ws o s).timing.sources.set src (.alive (beforeReading p ws o s).tables.active.silenceTimeout) } :
      Timing) = _
  simp

/-- A mark of a SILENT source re-evaluates the selection (R5, R6). -/
theorem markArrives_of_silent (p : Port) (ws : List Word) (o : Bool) (hsilent : s.timing.sources.get src = .silent) :
    let restarted := s.timing.sources.set src (.alive s.tables.active.silenceTimeout)
    TimingMoved [.sourceSwitch] (beforeReading p ws o s) (markArrives src (beforeReading p ws o s)) ∧
      (markArrives src (beforeReading p ws o s)).timing =
        (if selectionOf restarted = s.timing.selected then { s.timing with sources := restarted }
          else
            { s.timing with
              sources := restarted
              selected := selectionOf restarted
              baseline := none
              holdRequest := true }) ∧
      Flag.sourceSwitch.isSet (markArrives src (beforeReading p ws o s)).mgmt.flags =
        (Flag.sourceSwitch.isSet s.mgmt.flags || decide (selectionOf restarted ≠ s.timing.selected)) := by
  intro restarted
  have htiming : (restartTimer src (beforeReading p ws o s)).timing = { s.timing with sources := restarted } := by
    simp [restartTimer, restarted]
  have hswitch : Flag.sourceSwitch.isSet (restartTimer src (beforeReading p ws o s)).mgmt.flags =
      Flag.sourceSwitch.isSet s.mgmt.flags := (beforeReading_flags p ws o s).2 .sourceSwitch (by decide)
  rw [markArrives_silent (by simpa using hsilent)]
  have hrestarted := timingMoved_restartTimer [.sourceSwitch] src (beforeReading p ws o s)
  by_cases hsame : selectionOf restarted = s.timing.selected
  · rw [reevaluate_same false (by rw [htiming]; exact hsame), if_pos hsame, hswitch]
    exact ⟨hrestarted, htiming, by simp [hsame]⟩
  · obtain ⟨x, hx⟩ := selectionOf_restarted_isSome s.timing.sources src s.tables.active.silenceTimeout
    rw [reevaluate_some (src := x) false (by rw [htiming]; exact hsame) (by rw [htiming]; exact hx), if_neg hsame]
    refine ⟨hrestarted.trans (timingMoved_selectSource x _), ?_, ?_⟩
    · rw [show selectionOf restarted = some x from hx, selectSource, setFlag_timing, htiming]
    · rw [selectSource, setFlag_isSet]
      simp [hsame]

theorem seq_of_distance_zero {base : Word} (h : (seq - base).toNat = 0) : base = seq := by bv_omega

/-- A mark of the selected source at an IDLE engine, no change pending, is served by its distance or counted as a
duplicate. -/
theorem mark_judged {baseline : Option Word} {switched : Bool} {m : State}
    (h : MarkTaken (beforeReading p ws o s) m src baseline switched) (hidle : s.engine.computing = none)
    (hcommit : s.tables.commitPending = false) (hprogramme : s.engine.pendingProgramme = none)
    (hne : baseline ≠ some seq) :
    ∃ k gap, ServedBy baseline seq k gap ∧
      MarkServed s (afterReading p ws o s (examineMark p seq m)) p ws src seq k gap switched := by
  obtain ⟨k, gap, hjudged, hby⟩ := judgeMark_served hne
  exact ⟨k, gap, hby, h.markServed hidle hcommit hprogramme hjudged⟩

theorem mark_duplicate {fs : List Flag} {m : State} (h : TimingMoved fs (beforeReading p ws o s) m)
    (hidle : s.engine.computing = none) (hsame : m.timing.baseline = some seq) :
    (afterReading p ws o s (examineMark p seq m)).timing = { m.timing with duplicate := m.timing.duplicate + 1 } ∧
      TimingMoved fs (beforeReading p ws o s) (examineMark p seq m) := by
  rw [examineMark_duplicate (by rw [h.engine]; simpa using hidle) hsame]
  exact ⟨by simp, h.trans (.retimed fs m _)⟩

theorem mark_skipped {fs : List Flag} {m : State} {y : Cycle} (h : TimingMoved fs (beforeReading p ws o s) m)
    (hcomputing : s.engine.computing = some y) :
    (afterReading p ws o s (examineMark p seq m)).timing = { m.timing with skipped := m.timing.skipped + 1 } ∧
      Flag.markSkipped.isSet (afterReading p ws o s (examineMark p seq m)).mgmt.flags = true ∧
      TimingMoved [.markSkipped] m (examineMark p seq m) := by
  rw [examineMark_computing (y := y) (by rw [h.engine]; simpa using hcomputing)]
  obtain ⟨-, -, -, -, -, -, -, -, hmgmt⟩ := afterReading_frame p ws o s
    (setFlag .markSkipped { m with timing := { m.timing with skipped := m.timing.skipped + 1 } })
  refine ⟨by simp, ?_, (TimingMoved.retimed [.markSkipped] m _).trans (timingMoved_setFlag .markSkipped _)⟩
  rw [hmgmt, setFlag_isSet]
  simp

end

/-- Settles O13: the mark's source, its arrival, and the judgement of its number, case by case. -/
theorem marksAreJudgedOrSkipped : Obligations.MarksAreJudgedOrSkipped := by
  refine ⟨fun m ident => markSource_cases m ident, fun p ws d w o s hrun hcheck hformat hkind hnone => ?_,
    fun p ws d w o s src timeout seq more hrun hcheck hformat hkind hsource hpayload halive hselected hidle hcommit
      hprogramme => ?_,
    fun p ws d w o s src timeout seq more y hrun hcheck hformat hkind hsource hpayload halive hselected hcomputing => ?_,
    fun p ws d w o s src hrun hcheck hformat hkind hsource => ?_⟩
  · have hread : readMark p (headerIdent (frameHeader ws)) (framePayload ws) (beforeReading p ws o s) =
        beforeReading p ws o s := by
      rw [readMark, show markSource (beforeReading p ws o s).tables _ = none by simpa using hnone]
    refine ⟨_, exec_mark hrun hcheck hformat hkind, ?_, ?_⟩
    · rw [hread]
      simp
    · rw [hread]
      exact (TimingMoved.retimed [] (beforeReading p ws o s) (beforeReading p ws o s).timing).onlyTimingAndLink
  · have hmark : MarkOf s ws d w src := ⟨hrun, hcheck, hformat, hkind, hsource⟩
    have htaken := markTaken_of_alive p ws o halive hselected
    have hexec := exec_mark_examined hmark hpayload htaken.selected
    intro served
    refine ⟨fun hnone => ?_, fun base hbase => ?_⟩
    · exact ⟨_, hexec, htaken.markServed hidle hcommit hprogramme (by rw [hnone]; rfl)⟩
    · have hserved (hne : (seq - base).toNat ≠ 0) : ∃ k gap, ServedBy (some base) seq k gap ∧
          MarkServed s (afterReading p ws o s (examineMark p seq (markArrives src (beforeReading p ws o s)))) p ws src seq k gap
            false := by
        rw [← hbase]
        refine mark_judged htaken hidle hcommit hprogramme fun heq => hne ?_
        cases hbase.symm.trans heq
        simp
      refine ⟨fun hzero => ?_, fun hone => ?_, fun h2 h4 => ?_, fun h5 hfar => ?_, fun hback => ?_⟩
      · have hsame : s.timing.baseline = some seq := hbase.trans (congrArg some (seq_of_distance_zero hzero))
        obtain ⟨hmoved, harrived⟩ := markArrives_of_alive p ws o halive
        obtain ⟨htiming, hduplicate⟩ := mark_duplicate hmoved hidle (by rw [harrived]; exact hsame)
        refine ⟨_, hexec, ?_, hduplicate.onlyTimingAndLink⟩
        rw [htiming, harrived]
      · obtain ⟨k, gap, ⟨-, hby⟩, hmarked⟩ := hserved (by omega)
        obtain ⟨rfl, rfl⟩ := (hby base rfl).1 hone
        exact ⟨_, hexec, hmarked⟩
      · obtain ⟨k, gap, ⟨-, hby⟩, hmarked⟩ := hserved (by omega)
        obtain ⟨rfl, rfl⟩ := (hby base rfl).2.1 h2 h4
        exact ⟨_, hexec, hmarked⟩
      · obtain ⟨k, gap, ⟨-, hby⟩, hmarked⟩ := hserved (by omega)
        obtain ⟨rfl, rfl⟩ := (hby base rfl).2.2.1 h5 hfar
        exact ⟨_, hexec, hmarked⟩
      · obtain ⟨k, gap, ⟨-, hby⟩, hmarked⟩ := hserved (by omega)
        obtain ⟨rfl, rfl⟩ := (hby base rfl).2.2.2 hback
        exact ⟨_, hexec, hmarked⟩
  · have hmark : MarkOf s ws d w src := ⟨hrun, hcheck, hformat, hkind, hsource⟩
    have htaken := markTaken_of_alive p ws o halive hselected
    obtain ⟨hmoved, harrived⟩ := markArrives_of_alive p ws o halive
    obtain ⟨htiming, hflag, hskipped⟩ := mark_skipped (seq := seq) hmoved hcomputing
    refine ⟨_, exec_mark_examined hmark hpayload htaken.selected, ?_, hflag,
      (hmoved.mono.trans hskipped).onlyTimingAndLink⟩
    rw [htiming, harrived]
  · have hmark : MarkOf s ws d w src := ⟨hrun, hcheck, hformat, hkind, hsource⟩
    refine ⟨fun timeout seq more halive hselected hpayload hne hidle => ⟨fun hcommit => ?_, fun g hcommit hprogramme => ?_⟩,
      fun timeout halive hunread => ?_, fun hsilent hpayload => ?_⟩
    · have htaken := markTaken_of_alive p ws o halive hselected
      obtain ⟨k, gap, hjudged, -⟩ := judgeMark_served hne
      have hexec := exec_mark_examined (o := o) (p := p) hmark hpayload htaken.selected
      rw [htaken.commitServed hidle hcommit hjudged] at hexec
      have htables := (htaken.servedOn (seq := seq) (gap := gap)).tables
      refine ⟨_, cycleOn k seq (s.timing.served + 1) true
        (committed (toServe p seq gap (markArrives src (beforeReading p ws o s)))), hexec, by simp, ?_, rfl, by simp, ?_⟩
      · simp [cycleOn, htables, Tables.swapped]
      · simp [htables, Tables.swapped]
    · have htaken := markTaken_of_alive p ws o halive hselected
      obtain ⟨k, gap, hjudged, hby⟩ := judgeMark_served hne
      obtain ⟨hserved, hlink⟩ := htaken.programmeServed hidle hcommit hprogramme hjudged
      exact ⟨_, k, gap, exec_mark_examined hmark hpayload htaken.selected, hby, hserved, hlink⟩
    · obtain ⟨hmoved, harrived⟩ := markArrives_of_alive p ws o halive
      have hexec : exec (.receptionCompletion p ws d w o) s =
          .next (afterReading p ws o s (markArrives src (beforeReading p ws o s))) := by
        rcases hunread with hselected | hempty
        · exact exec_mark_unselected hmark (by rw [harrived]; exact hselected)
        · exact exec_mark_empty hmark hempty
      exact ⟨_, hexec, by simpa using harrived, hmoved.onlyTimingAndLink⟩
    · obtain ⟨hmoved, harrived, hflag⟩ := markArrives_of_silent p ws o hsilent
      refine ⟨_, exec_mark_empty hmark hpayload, by simpa using harrived, by simpa using hflag, hmoved.onlyTimingAndLink⟩

end Sys2Proof.Machine

/-! Marks of a SILENT source (R5, R6, R13). -/

namespace Sys2Proof.Machine

section
variable {p : Port} {ws : List Word} {o : Bool} {s m : State} {src : Source} {baseline : Option Word} {seq : Word} {k : Nat}
  {gap switched : Bool}

theorem afterReading_mgmt (p : Port) (ws : List Word) (o : Bool) (s t : State) : (afterReading p ws o s t).mgmt = t.mgmt := by
  simp

theorem markTaken_of_silent (p : Port) (ws : List Word) (o : Bool) (hsilent : s.timing.sources.get src = .silent)
    (hinv : SelectionInv s) (htakes : src = .a ∨ s.timing.sources.a = .silent) :
    MarkTaken (beforeReading p ws o s) (markArrives src (beforeReading p ws o s)) src none true :=
  markTaken_silent (b := beforeReading p ws o s) (by simpa using hsilent)
    (by rw [SelectionInv, (beforeReading_frame p ws o s).2.1]; exact hinv) (by simpa using htakes)

/-- With the idents unchanged a swap leaves every source and the selection. -/
theorem performSwap_timing_of_idents {e : State} (ha : e.tables.active.identA = e.tables.staged.identA)
    (hb : e.tables.active.identB = e.tables.staged.identB) (hselected : selectionOf e.timing.sources = e.timing.selected) :
    (performSwap e).timing = e.timing := by
  have hsources : swappedSources e = e.timing.sources := by
    rw [swappedSources, if_pos ha, if_pos hb]
  have hsame : selectionOf (swappedSources e) = e.timing.selected := by rw [hsources, hselected]
  have hresourced : resourced e = e.timing := by
    rw [resourced, hsources]
  rw [performSwap_timing (.inl hsame), hresourced, retimed_same hselected]

/-- The COMMIT that a served mark completes is answered OK, once. -/
theorem MarkTaken.commit_link {r : Request} (h : MarkTaken (beforeReading p ws o s) m src baseline switched)
    (hexecuting : s.mgmt.executing = some r) (hnone : NoTest s) :
    (committed (toServe p seq gap m)).link = (answer r .ok [] (beforeReading p ws o s)).link := by
  have hon := h.servedOn (seq := seq) (gap := gap)
  have hlink : (toServe p seq gap m).link = (beforeReading p ws o s).link := (toServe_moved p seq gap m).link.trans h.link
  have hrequest : (toServe p seq gap m).mgmt.executing = some r := by
    have hmgmt := congrArg Mgmt.executing hon.mgmt
    exact hmgmt.trans hexecuting
  have howed : OkOwed r (beforeReading p ws o s) (toServe p seq gap m) :=
    ⟨hnone.of_monitor hon.monitor, .inl ⟨hlink, hrequest⟩⟩
  obtain ⟨hended, hanswered⟩ := howed.performSwap.endExecuting
  unfold committed applyProgramme
  split
  · exact hanswered
  · rw [endExecuting_none _ _ (by exact endExecuting_executing .ok [] _)]
    exact hanswered

end

theorem selectionOf_cases (v : PerSource SourceState) :
    (v.a ≠ .silent → selectionOf v = some .a) ∧ (v.a = .silent → v.b ≠ .silent → selectionOf v = some .b) ∧
      (v.a = .silent → v.b = .silent → selectionOf v = none) := by
  obtain ⟨_ | _, _ | _⟩ := v <;> simp [selectionOf]

/-- Settles O5: a SILENT source takes the selection unless A is ALIVE, and its mark is then examined with no baseline. -/
theorem marksOfASilentSourceTakeTheSelection : Obligations.MarksOfASilentSourceTakeTheSelection := by
  refine ⟨selectionOf_cases, fun p ws d w o s src seq more hrun hcheck hformat hkind hsource hpayload hsilent hinv => ?_⟩
  have hmark : MarkOf s ws d w src := ⟨hrun, hcheck, hformat, hkind, hsource⟩
  intro restarted
  refine ⟨fun hsrc ha => ?_, fun htakes => ?_⟩
  · subst hsrc
    obtain ⟨hselectsA, -⟩ := selectionOf_cases s.timing.sources
    obtain ⟨hstillA, -⟩ := selectionOf_cases restarted
    have hselected : s.timing.selected = some .a := hinv.trans (hselectsA ha)
    have hstays : selectionOf restarted = s.timing.selected := by rw [hselected, hstillA ha]
    obtain ⟨-, harrived, -⟩ := markArrives_of_silent p ws o hsilent
    have hmoved : TimingMoved [] (beforeReading p ws o s) (markArrives .b (beforeReading p ws o s)) := by
      have hkept : selectionOf (restartTimer .b (beforeReading p ws o s)).timing.sources =
          (restartTimer .b (beforeReading p ws o s)).timing.selected := by
        simpa [restartTimer, restarted] using hstays
      rw [markArrives_silent (by simpa using hsilent), reevaluate_same false hkept]
      exact timingMoved_restartTimer [] .b _
    rw [if_pos hstays] at harrived
    refine ⟨_, exec_mark_unselected hmark ?_, by simpa using harrived, hmoved.onlyTimingAndLink⟩
    rw [harrived]
    exact fun heq => by rw [hselected] at heq; cases heq
  · have htaken := markTaken_of_silent p ws o hsilent hinv htakes
    have hexec := exec_mark_examined hmark hpayload htaken.selected
    refine ⟨fun y hcomputing => ?_, fun hidle hcommit hprogramme => ?_, fun hidle hcommit => ?_,
      fun g hidle hcommit hprogramme => ?_⟩
    · obtain ⟨htiming, hflag, hskipped⟩ := mark_skipped (seq := seq) htaken.toTimingMoved hcomputing
      refine ⟨_, hexec, ?_, ?_, hflag, (htaken.toTimingMoved.mono.trans hskipped.mono).onlyTimingAndLink⟩
      · rw [htiming, htaken.timing]
        simp [restarted]
      · obtain ⟨-, -, -, -, -, -, -, -, hmgmt⟩ := afterReading_frame p ws o s
          (examineMark p seq (markArrives src (beforeReading p ws o s)))
        rw [hmgmt, hskipped.flags .sourceSwitch (by decide), htaken.switch, Bool.or_true]
    · exact ⟨_, hexec, htaken.markServed hidle hcommit hprogramme rfl⟩
    · have hserves := htaken.commitServed (seq := seq) (k := 1) (gap := false) hidle hcommit rfl
      have hon := htaken.servedOn (seq := seq) (gap := false)
      have htiming := htaken.toServe_timing (seq := seq) (gap := false)
      have hlink (r : Request) (hr : s.mgmt.executing = some r) (hnone : NoTest s) :=
        htaken.commit_link (seq := seq) (gap := false) hr hnone
      rw [hserves] at hexec
      generalize toServe p seq false (markArrives src (beforeReading p ws o s)) = e at hexec hon htiming hlink
      obtain ⟨hserved, hport⟩ := performSwap_counts e
      generalize hrequest : (decide ((performSwap e).timing.selected ≠ some src) &&
        (performSwap e).timing.selected.isSome) = request at hexec
      generalize hy : cycleOn 1 seq (s.timing.served + 1) true (committed e) = y at hexec
      have hstarted := (started_isSet 1 y request (committed e)).2
      have hcommitted := committed_flags e
      refine ⟨_, y, hexec, by simp, ?_, by rw [← hy]; rfl, by rw [← hy]; rfl, by rw [← hy]; rfl, by rw [← hy]; rfl,
        ?_, ?_, by simp, ?_, ?_, ?_, fun ha hb => ?_, fun r hr hnone => afterReading_link_answered ?_⟩
      · rw [← hy]
        simp [cycleOn, hon.tables, Tables.swapped]
      · simp [hserved, htiming]
      · simp [hport, htiming]
      · rw [afterReading_mgmt, hstarted .sourceSwitch (by decide), hcommitted .sourceSwitch (by decide)]
        exact performSwap_keeps_sourceSwitch (by rw [hon.sourceSwitch, Bool.or_true])
      · rw [afterReading_mgmt, hstarted .markGap (by decide), hcommitted .markGap (by decide),
          flagsKept_performSwap e .markGap (by decide), hon.markGap, Bool.or_false]
      · simp [hon.tables, Tables.swapped]
      · have hkept := performSwap_timing_of_idents (e := e) (by rw [hon.tables]; exact ha) (by rw [hon.tables]; exact hb)
          (by rw [htiming]; exact selectionOf_taken _ htakes)
        have hnotMoved : request = false := by
          rw [← hrequest, hkept, htiming]
          simp
        simp [hkept, htiming, hnotMoved, restarted]
      · rw [(started_frame 1 y request (committed e)).1]
        exact hlink r hr hnone
    · obtain ⟨hserved, hlink⟩ := htaken.programmeServed hidle hcommit hprogramme (k := 1) (gap := false) (seq := seq) rfl
      exact ⟨_, hexec, hserved, hlink⟩

end Sys2Proof.Machine

/-! The swap at a served mark (R4 to R7, R13, R34, R90, R127, R142, R159). -/

namespace Sys2Proof.Machine

/-! ### The cut of a swap -/

section
variable {s : State}

theorem not_isHeld_of_not_driven {d : DriveState} (h : d.isDriven = false) : ¬ d.isHeld = true := by
  cases d with
  | off => exact Bool.false_ne_true
  | fault => exact Bool.false_ne_true
  | hold => cases h
  | wait base => cases h
  | boost timeout => cases h

/-- A swap that keeps the selection and lifts V_cut above the sample closes an OPEN gate: the driven corners go to OFF at their
clamped targets (R126, R127, R142). -/
theorem performSwap_cuts (h : SwapAnswersNone s) (hkeeps : selectionLost (resourced s) = false)
    (hopen : s.gate.isOpen = true) (hchanged : ¬ SameSupply s.tables.active s.tables.staged)
    (hcut : s.supply.sample < s.tables.staged.vCut) :
    (performSwap s).gate = { isOpen := false, cause := .supplyCut } ∧ (performSwap s).drive.slots = [] ∧
      (performSwap s).drive.waiting = [] ∧ ∀ c,
        let i := s.tables.staged.clampCurrent c (s.corner c).target
        (performSwap s).drive.staggered.get c = none ∧
        ((s.corner c).state.isDriven = true →
          (performSwap s).corner c = { s.corner c with state := .off, target := i, duty := 0, outputDuty := 0 } ∧
          (performSwap s).monitorOf c =
            { settle := s.tables.staged.settleCount, deviation := 0, stuck := 0, test := none }) ∧
        ((s.corner c).state.isDriven = false →
          (performSwap s).corner c = { s.corner c with target := i } ∧
          (performSwap s).monitorOf c = settleLowered s.tables.active s.tables.staged (s.monitorOf c)) := by
  obtain ⟨hdrive, hmonitor, hgate⟩ := beforeDrive_keeps h (.inr hkeeps)
  have hactive : (beforeDrive s).tables.active = s.tables.staged := by simp [Tables.swapped]
  have ht4 : s.tables.active.t4 ≠ (beforeDrive s).tables.active.t4 := by
    rw [hactive]
    exact fun hsame => hchanged ⟨congrArg (wordAt · 17) hsame, congrArg (wordAt · 18) hsame⟩
  obtain ⟨⟨hoff, hother, hslots, hwaiting, hstaggered⟩, hclosed⟩ :=
    swapSupply_cuts (o := s.tables) (s := swapDrive s.tables (beforeDrive s)) (by simpa [hgate] using hopen)
      (by simpa [Tables.swapped] using hchanged) (by simpa [Tables.swapped] using hcut)
  have hcorner (c : Corner) : (performSwap s).corner c =
      (swapSupply s.tables (swapDrive s.tables (beforeDrive s))).corner c := by
    rw [performSwap_eq]
    exact corner_of_drive (by simp) c
  have hitems (c : Corner) : (performSwap s).monitorOf c = settleLowered s.tables.active s.tables.staged
      ((swapSupply s.tables (swapDrive s.tables (beforeDrive s))).monitorOf c) := by
    rw [performSwap_eq, monitorOf_swapMonitor]
    simp [Tables.swapped]
  have hswapped (c : Corner) := corner_swapDrive ht4 c
  have hstate (c : Corner) : ((swapDrive s.tables (beforeDrive s)).corner c).state = (s.corner c).state := by
    rw [hswapped, state_swappedRecord, corner_of_drive hdrive]
  have hrecord (c : Corner) : swappedRecord (beforeDrive s) c =
      if (s.corner c).state.isHeld then
        { s.corner c with
          target := s.tables.staged.clampCurrent c (s.corner c).target
          duty := feedForward (beforeDrive s) c (s.tables.staged.clampCurrent c (s.corner c).target) }
      else { s.corner c with target := s.tables.staged.clampCurrent c (s.corner c).target } := by
    rw [swappedRecord, corner_of_drive hdrive, hactive]
  refine ⟨by rw [performSwap_eq]; simpa using hclosed, by rw [performSwap_eq]; simpa using hslots,
    by rw [performSwap_eq]; simpa using hwaiting, fun c => ⟨?_, fun hdriven => ?_, fun hnot => ?_⟩⟩
  · have hnone := hstaggered c
    rw [performSwap_eq]
    simpa using hnone
  · obtain ⟨hrecorded, hsettling⟩ := hoff c (by rw [hstate]; exact hdriven)
    rw [hcorner, hitems, hrecorded, hsettling, hswapped, hrecord]
    refine ⟨?_, ?_⟩
    · split <;> rfl
    · simp [settling, settleLowered, Tables.swapped]
  · obtain ⟨hrecorded, hkept⟩ := hother c (by rw [hstate]; exact hnot)
    have hnotHeld : ¬ (s.corner c).state.isHeld = true := not_isHeld_of_not_driven hnot
    rw [hcorner, hitems, hrecorded, hkept, hswapped, hrecord, if_neg hnotHeld, monitorOf_swapDrive ht4, clampedItems,
      corner_of_drive hdrive, monitorOf_of_monitor hmonitor, if_neg fun hheld => hnotHeld hheld.1]
    exact ⟨rfl, rfl⟩

theorem committed_of_noProgramme {e : State} (h : (performSwap e).engine.pendingProgramme = none) :
    committed e = endExecuting .ok [] (performSwap e) := by
  rw [committed, applyProgramme, show (endExecuting .ok [] (performSwap e)).engine.pendingProgramme = none by simpa using h]

end

theorem RecordsSwapped.after {s t t' : State} {a b : Bank} (h : RecordsSwapped s t a b) (hdrive : t'.drive = t.drive)
    (hmonitor : t'.monitor = t.monitor) : RecordsSwapped s t' a b := by
  simpa only [RecordsSwapped, corner_of_drive hdrive, monitorOf_of_monitor hmonitor, hdrive, hmonitor] using h

/-- Settles O27: the blocks of the swap on the state on which the mark is served, and the cycle that starts on what they
leave. -/
theorem swapsAtServedMarksActOnEveryBlock : Obligations.SwapsAtServedMarksActOnEveryBlock := by
  intro p ws d w o s src timeout seq more r hrun hcheck hformat hkind hsource hpayload halive hselected hne hidle hcommit
    hexecuting hprogramme hnone a b restarted sources moved lost cut sameIdents
  have hmark : MarkOf s ws d w src := ⟨hrun, hcheck, hformat, hkind, hsource⟩
  obtain ⟨hvalid, -⟩ := markSource_some hsource
  have htaken := markTaken_of_alive p ws o halive hselected
  obtain ⟨k, gap, hjudged, hby⟩ := judgeMark_served hne
  have hexec := exec_mark_examined (o := o) (p := p) hmark hpayload htaken.selected
  rw [htaken.commitServed hidle hcommit hjudged] at hexec
  have hon := htaken.servedOn (seq := seq) (gap := gap)
  have htiming := htaken.toServe_timing (seq := seq) (gap := gap)
  have hlink := htaken.commit_link (seq := seq) (gap := gap) hexecuting hnone
  generalize toServe p seq gap (markArrives src (beforeReading p ws o s)) = e at hexec hon htiming hlink
  have hquiet : SwapAnswersNone e := .inr ⟨hnone.of_monitor hon.monitor, by rw [hon.engine, hprogramme]⟩
  have hpending : (performSwap e).engine.pendingProgramme = none :=
    (performSwap_quiet (hnone.of_monitor hon.monitor) (by rw [hon.engine, hprogramme])).programme
  have hsources : swappedSources e = sources := by
    rw [swappedSources, hon.tables, htiming]
  have hresourced : resourced e = { e.timing with sources := sources } := by rw [resourced, hsources]
  have hmoved : selectionMoves (resourced e) = moved := by
    rw [hresourced, selectionMoves, htiming]
  have hlost : selectionLost (resourced e) = lost := by
    rw [hresourced, selectionLost, htiming]
    cases hselects : selectionOf sources <;> simp [lost, hselects]
  have hswapTiming : (performSwap e).timing =
      { s.timing with
        sources := sources
        selected := selectionOf sources
        baseline := if moved then none else some seq
        holdRequest := s.timing.holdRequest || moved
        served := s.timing.served + 1
        reportPort := p } := by
    rw [performSwap_timing hquiet, retimed, hmoved, hresourced, htiming]
    simp
  have hrequest : (decide ((performSwap e).timing.selected ≠ some src) && (performSwap e).timing.selected.isSome) = moved := by
    rw [hswapTiming]
  rw [hrequest] at hexec
  generalize hy : cycleOn k seq (s.timing.served + 1) true (committed e) = y at hexec
  obtain ⟨hstale, hstarted⟩ := started_isSet k y moved (committed e)
  have hcommitted := committed_flags e
  have hflag (g : Flag) (hg : g ∉ [Flag.signalStale, .insertLost]) :
      g.isSet (afterReading p ws o s (started k y moved (committed e))).mgmt.flags = g.isSet (performSwap e).mgmt.flags := by
    simp only [List.mem_cons, List.not_mem_nil, or_false, not_or] at hg
    obtain ⟨hnotStale, hnotLost⟩ := hg
    rw [afterReading_mgmt, hstarted g (by simpa using hnotStale), hcommitted g (by simpa using hnotLost)]
  have hswapped := flagsKept_performSwap e
  have hcommittedEngine : (committed e).engine = (performSwap e).engine := by
    rw [committed_of_noProgramme hpending]
    simp
  have hage (g : Signal) : (performSwap e).capture.live.get g =
      { s.capture.live.get g with age := if a.row g = b.row g then (s.capture.live.get g).age else 255 } := by
    rw [performSwap_live, hon.tables, hon.capture]
    simp only [Tables.row, hvalid, if_true]
    rfl
  obtain ⟨hengineSame, hengineChanged⟩ := performSwap_engine hquiet
  have hengine : (performSwap e).engine =
      if a.previewEnable = b.previewEnable ∧ a.wheelbase = b.wheelbase then s.engine
      else { s.engine with queue := [], sides := ⟨.armed, .armed⟩ } := by
    rw [hon.tables, hon.engine] at hengineSame hengineChanged
    split
    · next hsame => exact hengineSame hsame
    · next hchanged => exact (hengineChanged hchanged).1 hidle
  have hrecords (hkeeps : s.gate.isOpen = false ∨ lost = false)
      (hcuts : s.gate.isOpen = false ∨ SameSupply a b ∨ b.vCut ≤ s.supply.sample) :
      (afterReading p ws o s (started k y moved (committed e))).gate = s.gate ∧
        RecordsSwapped s (afterReading p ws o s (started k y moved (committed e))) a b := by
    obtain ⟨hrecords, hgate⟩ := performSwap_records hquiet (by rw [hon.gate, hlost]; exact hkeeps)
      (by rw [hon.gate, hon.tables, hon.supply]; exact hcuts)
    rw [hon.tables] at hrecords
    exact ⟨by simp [hgate, hon.gate],
      (hrecords.of_agree hon.drive hon.monitor hon.supply).after (by simp) (by simp)⟩
  have hkept (hidents : sameIdents) : lost = false := by
    obtain ⟨ha, hb⟩ := hidents
    have hsame : sources = restarted := by
      simp only [sources, if_pos ha, if_pos hb]
    obtain ⟨x, hx⟩ := selectionOf_restarted_isSome s.timing.sources src a.silenceTimeout
    simp only [lost, hsame]
    rw [show selectionOf restarted = some x from hx]
    rfl
  refine ⟨_, y, gap, hexec, ?_, ?_, ?_, ?_, ?_, ?_, ?_, ?_, ?_, ?_, ?_, by simp, ?_, ?_, ?_, ?_, ?_, fun g => ?_, ?_, ?_, ?_, ?_,
    ?_⟩
  · simp [hon.tables, Tables.swapped, b]
  · simp [hswapTiming]
  · rw [hflag _ (by decide), performSwap_sourceSwitch hquiet, hmoved, hon.sourceSwitch, Bool.or_false]
  · rw [hflag _ (by decide), performSwap_marksSilent hquiet, hlost, hon.flags .marksSilent (by decide)]
  · rw [afterReading_mgmt]
    have hqueue := congrArg Mgmt.queue hon.mgmt
    have hcaptures := congrArg Mgmt.captures hon.mgmt
    exact Mgmt.flags_only s.mgmt.flags (n := { s.mgmt with executing := none }) (by simp) (by simpa using hqueue)
      (by simpa using hcaptures)
  · exact afterReading_link_answered ((started_frame k y moved (committed e)).1.trans hlink)
  · rw [← hy]
    exact hby
  · rw [hflag _ (by decide), hswapped .markGap (by decide), hon.markGap]
  · rw [hflag _ (by decide), hswapped .fullDrops (by decide), hon.fullDrops]
  · rw [afterReading_mgmt, hstale, hcommitted .signalStale (by decide), hswapped .signalStale (by decide),
      hon.flags .signalStale (by decide)]
  · intro g hg
    simp only [List.mem_cons, List.not_mem_nil, or_false, not_or] at hg
    obtain ⟨hgap, hswitch, hsilent, hstaleFlag, hfull, hlow, hcutFlag, hinsert⟩ := hg
    rw [hflag g (by simp [hstaleFlag, hinsert]), hswapped g (by simp [swapFlags, hswitch, hsilent, hlow, hcutFlag, hinsert]),
      hon.flags g (by simp [hgap, hswitch, hfull])]
  · rw [← hy]
    simp [cycleOn, hon.tables, Tables.swapped, b]
  · rw [← hy]
    change (committed e).engine.programme = _
    rw [hcommittedEngine, hengine]
    split <;> rfl
  · rw [← hy]
    rfl
  · rw [← hy]
    rfl
  · rw [← hy]
    rfl
  · have hsnapshot : y.snapshot = takeSnapshot (committed e) := by rw [← hy]; rfl
    obtain ⟨hvalue, hageAt, hstaleAt⟩ := takeSnapshot_at (committed e) g
    have hcapture : (committed e).capture.live.get g =
        { s.capture.live.get g with age := if a.row g = b.row g then (s.capture.live.get g).age else 255 } := by
      rw [← hage]
      simp
    rw [hcapture] at hvalue hageAt hstaleAt
    rw [hsnapshot]
    refine ⟨hvalue, hageAt, fun hchanged => hstaleAt.mpr (.inr (.inr (if_neg hchanged))), ?_⟩
    have hk : y.k = k := by rw [← hy]; rfl
    simp only [afterReading_frame, started_frame, ageSignals_live, hcapture, hk]
  · have hstartedEngine : (afterReading p ws o s (started k y moved (committed e))).engine =
        { (performSwap e).engine with computing := some y } := by
      simp [hcommittedEngine]
    rw [hstartedEngine, hengine]
    split
    · rw [← hidle]
    · rw [← hidle]
  · have hsupply := performSwap_supply hquiet
    rw [hon.tables] at hsupply
    exact hsupply.of_agree hon.supply.symm (by simp) (hon.flags .supplyLow (by decide)).symm
      (hon.flags .supplyCut (by decide)).symm (hflag _ (by decide)) (hflag _ (by decide))
  · intro hclosed
    obtain ⟨hgate, hswappedRecords⟩ := hrecords (.inl hclosed) (.inl hclosed)
    exact ⟨hgate, fun _ => hswappedRecords⟩
  · intro hopen hidents hnoCut
    have hnotCut : ¬ ((a.vLow ≠ b.vLow ∨ a.vCut ≠ b.vCut) ∧ s.supply.sample < b.vCut) := by
      simpa only [cut, Bool.and_eq_false_iff, decide_eq_false_iff_not, ← not_and_or] using hnoCut
    have hcuts : SameSupply a b ∨ b.vCut ≤ s.supply.sample := by
      by_cases hsame : SameSupply a b
      · exact .inl hsame
      · exact .inr (Nat.not_lt.mp fun hlt => hnotCut ⟨not_and_or.mp hsame, hlt⟩)
    exact hrecords (.inr (hkept hidents)) (.inr hcuts)
  · intro hopen hidents hcuts
    obtain ⟨hchanged, hbelow⟩ : (a.vLow ≠ b.vLow ∨ a.vCut ≠ b.vCut) ∧ s.supply.sample < b.vCut := by
      simpa only [cut, Bool.and_eq_true, decide_eq_true_eq] using hcuts
    have hnotSame : ¬ SameSupply a b := fun ⟨hlow, hcut⟩ =>
      hchanged.elim (fun h => h hlow) (fun h => h hcut)
    obtain ⟨hgate, hslots, hwaiting, hcorners⟩ := performSwap_cuts hquiet (hlost.trans (hkept hidents))
      (by rw [hon.gate]; exact hopen) (by rw [hon.tables]; exact hnotSame) (by rw [hon.tables, hon.supply]; exact hbelow)
    refine ⟨by simpa using hgate, by simpa using hslots, by simpa using hwaiting, fun c => ?_⟩
    have hcorner := hcorners c
    rw [hon.tables, corner_of_drive hon.drive, monitorOf_of_monitor hon.monitor] at hcorner
    have hdrive : (afterReading p ws o s (started k y moved (committed e))).drive = (performSwap e).drive := by simp
    have hmonitor : (afterReading p ws o s (started k y moved (committed e))).monitor = (performSwap e).monitor := by simp
    rw [corner_of_drive hdrive, monitorOf_of_monitor hmonitor, hdrive]
    exact hcorner

end Sys2Proof.Machine

/-! SILENCE_TIMER_EXPIRY (R3, R5 to R7, R55, R160). -/

namespace Sys2Proof.Machine

/-! ### An expiry and the selection -/

section
variable {src : Source} {first : Bool} {s : State} {timeout : Nat}

theorem exec_silenceTimerExpiry_silent (hrun : s.resetInProgress = false) (h : s.timing.sources.get src = .silent) :
    exec (.silenceTimerExpiry src first) s = .next s := by
  simp only [exec, execSilenceTimerExpiry, hrun, h]
  rfl

theorem exec_silenceTimerExpiry_alive (hrun : s.resetInProgress = false) (h : s.timing.sources.get src = .alive timeout) :
    exec (.silenceTimerExpiry src first) s =
      .next (reevaluate first (s.setSources (s.timing.sources.set src .silent))) := by
  simp only [exec, execSilenceTimerExpiry, hrun, h]
  rfl

/-- With A expiring and B ALIVE the selection passes to B. -/
theorem reevaluate_of_a_expired (hinv : SelectionInv s) (h : s.timing.sources.a = .alive timeout)
    (hb : s.timing.sources.b ≠ .silent) :
    reevaluate first (s.setSources (s.timing.sources.set .a .silent)) =
      selectSource .b (s.setSources (s.timing.sources.set .a .silent)) := by
  obtain ⟨hwas, -⟩ := selectionOf_cases s.timing.sources
  obtain ⟨-, hselects, -⟩ := selectionOf_cases (s.timing.sources.set .a .silent)
  have hselected : s.timing.selected = some .a := hinv.trans (hwas (by rw [h]; exact fun heq => nomatch heq))
  refine reevaluate_some first ?_ (hselects rfl hb)
  rw [show (s.setSources (s.timing.sources.set .a .silent)).timing.selected = some .a from hselected]
  exact fun heq => nomatch (hselects rfl hb).symm.trans heq

/-- With B expiring and A ALIVE the selection stays. -/
theorem reevaluate_of_b_expired (hinv : SelectionInv s) (ha : s.timing.sources.a ≠ .silent) :
    reevaluate first (s.setSources (s.timing.sources.set .b .silent)) =
      s.setSources (s.timing.sources.set .b .silent) := by
  obtain ⟨hwas, -⟩ := selectionOf_cases s.timing.sources
  obtain ⟨hstays, -⟩ := selectionOf_cases (s.timing.sources.set .b .silent)
  exact reevaluate_same first ((hstays ha).trans (hinv.trans (hwas ha)).symm)

/-- The state of an expiry that leaves no source, its selection lost. -/
def unselected (s : State) : State :=
  { s with timing := { s.timing with sources := ⟨.silent, .silent⟩, selected := none } }

/-- With the other source SILENT the selection is lost: the gate closes, the changes pending are made. -/
theorem reevaluate_of_last_expired (hinv : SelectionInv s) (h : s.timing.sources.get src = .alive timeout)
    (ha : src = .a → s.timing.sources.b = .silent) (hb : src = .b → s.timing.sources.a = .silent) :
    reevaluate first (s.setSources (s.timing.sources.set src .silent)) =
      applyProgramme (if first then closeForSilence (completeCommit (unselected s))
        else completeCommit (closeForSilence (unselected s))) := by
  have hsilent : s.timing.sources.set src .silent = ⟨.silent, .silent⟩ := by
    cases src with
    | a => exact congrArg (PerSource.mk .silent) (ha rfl)
    | b => exact congrArg (PerSource.mk · .silent) (hb rfl)
  have hselected : s.timing.selected ≠ none := by
    have halive : s.timing.sources.get src ≠ .silent := by rw [h]; exact fun heq => nomatch heq
    rw [show s.timing.selected = selectionOf s.timing.sources from hinv]
    intro hnone
    rw [← selectionOf_restarted halive timeout] at hnone
    obtain ⟨x, hx⟩ := selectionOf_restarted_isSome s.timing.sources src timeout
    cases hx.symm.trans hnone
  rw [hsilent, reevaluate]
  refine (if_neg fun heq => hselected heq.symm).trans ?_
  rfl

end

/-! ### The drives once no source is left -/

/-- The gate has closed on the drives: driven corners in OFF at duty 0, the others as they stand, nothing granted, awaited or
outstanding. -/
def Silenced (s t : State) : Prop :=
  t.drive.slots = [] ∧ t.drive.waiting = [] ∧ ∀ c,
    t.drive.staggered.get c = none ∧
    (t.corner c).state = (if (s.corner c).state = .fault then .fault else .off) ∧
    ((s.corner c).state.isDriven = true → (t.corner c).duty = 0 ∧ (t.corner c).outputDuty = 0)

section
variable {s t u : State}

theorem state_of_not_driven {d : DriveState} (h : d.isDriven = false) : d = if d = .fault then .fault else .off := by
  cases d with
  | off => rfl
  | fault => rfl
  | hold => cases h
  | wait base => cases h
  | boost timeout => cases h

theorem not_fault_of_driven {d : DriveState} (h : d.isDriven = true) : d ≠ .fault := by
  rintro rfl
  cases h

theorem DrivesSwitchedOff.silenced (h : DrivesSwitchedOff s t) : Silenced s t := by
  obtain ⟨hoff, hother, hslots, hwaiting, hstaggered⟩ := h
  refine ⟨hslots, hwaiting, fun c => ⟨hstaggered c, ?_, fun hdriven => ?_⟩⟩
  · cases hdriven : (s.corner c).state.isDriven with
    | true => rw [(hoff c hdriven).1, if_neg (not_fault_of_driven hdriven)]
    | false =>
      rw [(hother c hdriven).1]
      exact state_of_not_driven hdriven
  · rw [(hoff c hdriven).1]
    exact ⟨rfl, rfl⟩

theorem DrivesSwitchedOff.after {t' : State} (h : DrivesSwitchedOff s t) (hdrive : t'.drive = t.drive)
    (hmonitor : t'.monitor = t.monitor) : DrivesSwitchedOff s t' := by
  simpa only [DrivesSwitchedOff, corner_of_drive hdrive, monitorOf_of_monitor hmonitor, hdrive] using h

theorem Silenced.of_states {s' : State} (h : Silenced s' t) (hstates : ∀ c, (s'.corner c).state = (s.corner c).state) :
    Silenced s t := by
  simpa only [Silenced, hstates] using h

theorem Silenced.of_drive {t' : State} (h : Silenced s t) (hdrive : t'.drive = t.drive) : Silenced s t' := by
  simpa only [Silenced, corner_of_drive hdrive, hdrive] using h

theorem RecordsSwapped.state {a b : Bank} (h : RecordsSwapped s t a b) (c : Corner) :
    (t.corner c).state = (s.corner c).state := by
  obtain ⟨-, -, hsame, hchanged⟩ := h
  by_cases ht4 : a.t4 = b.t4
  · rw [corner_of_drive (hsame ht4).1]
  · obtain ⟨-, hheld, hother⟩ := hchanged ht4 c
    cases hs : (s.corner c).state.isHeld with
    | true => rw [(hheld hs).1]
    | false => rw [(hother hs).1]

/-- A swap after the gate has closed leaves the drives switched off. -/
theorem Silenced.swapped {a b : Bank} (h : Silenced s t) (hswap : RecordsSwapped t u a b) : Silenced s u := by
  obtain ⟨hslots, hwaiting, hcorners⟩ := h
  have hnot (c : Corner) : (t.corner c).state.isHeld = false := by
    obtain ⟨-, hstate, -⟩ := hcorners c
    rw [hstate]
    split <;> rfl
  obtain ⟨hslots', hwaiting', hsame, hchanged⟩ := hswap
  refine ⟨hslots'.trans hslots, hwaiting'.trans hwaiting, fun c => ?_⟩
  obtain ⟨hstaggered, hstate, hduty⟩ := hcorners c
  by_cases ht4 : a.t4 = b.t4
  · obtain ⟨hdrive, -⟩ := hsame ht4
    rw [corner_of_drive hdrive, hdrive]
    exact hcorners c
  · obtain ⟨hclamped, -, hother⟩ := hchanged ht4 c
    obtain ⟨hcorner, -⟩ := hother (hnot c)
    rw [hclamped, hstaggered, hcorner]
    exact ⟨rfl, hstate, hduty⟩

end

/-! ### Losing the source with no COMMIT pending -/

section
variable {s : State} {r : Request}

theorem completeCommit_of_none (h : s.tables.commitPending = false) : completeCommit s = s := if_neg (by simp [h])

theorem completeCommit_of_pending (h : s.tables.commitPending = true) :
    completeCommit s = endExecuting .ok [] (performSwap s) := if_pos h

theorem applyProgramme_engine (s : State) :
    (applyProgramme s).engine.programme = s.engine.pendingProgramme.getD s.engine.programme ∧
      (applyProgramme s).engine.pendingProgramme = none := by
  unfold applyProgramme
  split
  · next h => exact ⟨by rw [h]; rfl, h⟩
  · next g h => simp [h]

theorem closeForSilence_flags (s : State) :
    Flag.marksSilent.isSet (closeForSilence s).mgmt.flags = true := by
  rw [closeForSilence, setFlag_isSet]
  simp

theorem closeForSilence_drives (hopen : s.gate.isOpen = true) : DrivesSwitchedOff s (closeForSilence s) :=
  closeGate_drivesSwitchedOff .marksSilent hopen

theorem closeForSilence_of_closed (hclosed : s.gate.isOpen = false) : closeForSilence s = setFlag .marksSilent s := by
  rw [closeForSilence, closeGate_closed _ hclosed]

theorem closeForSilence_gate (s : State) :
    (closeForSilence s).gate = if s.gate.isOpen then { isOpen := false, cause := .marksSilent } else s.gate :=
  closeGate_gate .marksSilent s

theorem applyProgramme_of_none (h : s.engine.pendingProgramme = none) : applyProgramme s = s := by
  simp only [applyProgramme, h]

theorem closeForSilence_quiet (hnone : NoTest s) :
    (closeForSilence s).link = s.link ∧ (closeForSilence s).mgmt.executing = s.mgmt.executing := by
  obtain ⟨hlink, hmgmt⟩ := closeGate_of_noTest .marksSilent hnone
  have hexecuting := congrArg Mgmt.executing hmgmt
  exact ⟨hlink, hexecuting⟩

/-- A programme that is pending is applied with its request answered OK, once. -/
theorem OkOwed.programmeApplied {b x : State} (h : OkOwed r b x) (hprogramme : x.engine.pendingProgramme ≠ none) :
    (Machine.applyProgramme x).link = (answer r .ok [] b).link ∧ (Machine.applyProgramme x).mgmt.executing = none := by
  obtain ⟨g, hg⟩ := Option.ne_none_iff_exists'.mp hprogramme
  have happlied : Machine.applyProgramme x =
      Machine.endExecuting .ok [] { x with engine := { x.engine with programme := g, pendingProgramme := none } } := by
    simp only [Machine.applyProgramme, hg]
  rw [happlied]
  exact ⟨(OkOwed.endExecuting (x := { x with engine := { x.engine with programme := g, pendingProgramme := none } })
    (h.of_agree rfl rfl rfl)).2, endExecuting_executing _ _ _⟩

theorem closeGate_idle (cause : CloseCause) (h : s.mgmt.executing = none) : (closeGate cause s).mgmt.executing = none := by
  unfold closeGate
  split
  · have hoff : (allDrivenOff { s with gate := { isOpen := false, cause := cause } }).mgmt.executing = none := by
      refine List.foldlRecOn (motive := fun t : State => t.mgmt.executing = none) corners _ h fun t ht c _ => ?_
      split
      · rw [toOff_executing, ht, ite_self]
      · exact ht
    exact hoff
  · exact h

end

/-! ### Losing the source with a COMMIT pending -/

section
variable {s : State}

theorem unselected_swap (s : State) : selectionOf (swappedSources (unselected s)) = (unselected s).timing.selected := by
  rw [swappedSources_silent rfl]
  rfl

theorem performSwap_timing_of_unselected {x : State} (h : x.timing = (unselected s).timing) :
    selectionOf (swappedSources x) = x.timing.selected ∧ (performSwap x).timing = x.timing := by
  have hsilent : selectionOf x.timing.sources = none := by rw [h]; rfl
  have hsources : swappedSources x = x.timing.sources := swappedSources_silent hsilent
  have hsame : selectionOf (swappedSources x) = x.timing.selected := by rw [hsources, hsilent, h]; rfl
  have hresourced : resourced x = x.timing := by rw [resourced, hsources]
  refine ⟨hsame, ?_⟩
  rw [performSwap_timing (.inl hsame), hresourced, retimed_same (by rw [← hsources, hsame])]

/-- A swap with no source left and the gate OPEN leaves it OPEN on the same drives, or closes it on a cut. -/
theorem performSwap_unselected (hopen : s.gate.isOpen = true) :
    ((performSwap (unselected s)).gate.isOpen = true ∧
        ∀ c, ((performSwap (unselected s)).corner c).state = (s.corner c).state) ∨
      ((performSwap (unselected s)).gate.isOpen = false ∧ Silenced s (performSwap (unselected s))) := by
  have hquiet : SwapAnswersNone (unselected s) := .inl (unselected_swap s)
  have hkeeps : selectionLost (resourced (unselected s)) = false := by
    have hsame : selectionOf (resourced (unselected s)).sources = (resourced (unselected s)).selected := unselected_swap s
    simp [selectionLost, hsame]
  by_cases hcut : SameSupply s.tables.active s.tables.staged ∨ s.tables.staged.vCut ≤ s.supply.sample
  · obtain ⟨hrecords, hgate⟩ := performSwap_records hquiet (.inr hkeeps) (.inr hcut)
    exact .inl ⟨by rw [hgate]; exact hopen, hrecords.state⟩
  · obtain ⟨hchanged, hbelow⟩ := not_or.mp hcut
    obtain ⟨hgate, hslots, hwaiting, hcorners⟩ := performSwap_cuts hquiet hkeeps hopen hchanged (Nat.not_le.mp hbelow)
    refine .inr ⟨by rw [hgate], hslots, hwaiting, fun c => ?_⟩
    obtain ⟨hstaggered, hdriven, hother⟩ := hcorners c
    refine ⟨hstaggered, ?_, fun hon => by rw [(hdriven hon).1]; exact ⟨rfl, rfl⟩⟩
    cases hon : (s.corner c).state.isDriven with
    | true => rw [(hdriven hon).1, if_neg (not_fault_of_driven hon)]
    | false =>
      rw [(hother hon).1]
      exact state_of_not_driven hon

/-- What is common to the two orders of the swap and the close request at the loss of the source (log entry 8). -/
structure LostWithCommit (s t : State) : Prop where
  timing : t.timing = (unselected s).timing
  flag : Flag.marksSilent.isSet t.mgmt.flags = true
  closed : t.gate.isOpen = false
  executing : t.mgmt.executing = none
  queue : t.mgmt.queue = s.mgmt.queue
  captures : t.mgmt.captures = s.mgmt.captures
  drives : s.gate.isOpen = true → Silenced s t
  tables : t.tables = s.tables.swapped
  owed : ∀ r, s.mgmt.executing = some r → NoTest s → t.link = (answer r .ok [] s).link

theorem lostWithCommit_swapFirst (hpending : s.tables.commitPending = true) :
    LostWithCommit s (closeForSilence (completeCommit (unselected s))) := by
  rw [completeCommit_of_pending (s := unselected s) hpending]
  obtain ⟨-, htiming⟩ := performSwap_timing_of_unselected (s := s) (x := unselected s) rfl
  refine ⟨by simpa using htiming, closeForSilence_flags _, closeForSilence_closed _, closeGate_idle _ (by simp),
    by simp [unselected], by simp [unselected], fun hopen => ?_, by simp [unselected], fun r hr hnone => ?_⟩
  · rcases performSwap_unselected hopen with ⟨hstill, hstates⟩ | ⟨hclosed, hsilenced⟩
    · have hoff := closeForSilence_drives (s := endExecuting .ok [] (performSwap (unselected s))) (by simpa using hstill)
      exact hoff.silenced.of_states fun c => by
        rw [corner_of_drive (t := endExecuting .ok [] (performSwap (unselected s))) (s := performSwap (unselected s)) (by simp)]
        exact hstates c
    · rw [closeForSilence_of_closed (by simpa using hclosed)]
      exact hsilenced.of_drive (by simp)
  · have howed : OkOwed r s (unselected s) := ⟨hnone, .inl ⟨rfl, hr⟩⟩
    obtain ⟨hended, hanswered⟩ := howed.performSwap.endExecuting
    exact (closeForSilence_quiet hended.noTest).1.trans hanswered

theorem lostWithCommit_closeFirst (hpending : s.tables.commitPending = true) :
    LostWithCommit s (completeCommit (closeForSilence (unselected s))) := by
  rw [completeCommit_of_pending (s := closeForSilence (unselected s)) (by simpa [unselected] using hpending)]
  obtain ⟨hsame, htiming⟩ := performSwap_timing_of_unselected (s := s) (x := closeForSilence (unselected s)) (by simp)
  have hclosed : (closeForSilence (unselected s)).gate.isOpen = false := closeForSilence_closed _
  obtain ⟨hrecords, hgate⟩ := performSwap_records (s := closeForSilence (unselected s)) (.inl hsame) (.inl hclosed)
    (.inl hclosed)
  refine ⟨by simpa using htiming, ?_, by simpa [hgate] using hclosed, by simp, by simp [unselected], by simp [unselected],
    fun hopen => ?_, by simp [unselected], fun r hr hnone => ?_⟩
  · rw [flagsKept_endExecuting _ _ _ .marksSilent (by decide), performSwap_marksSilent (.inl hsame), closeForSilence_flags]
    rfl
  · have hoff : Silenced s (closeForSilence (unselected s)) :=
      (closeForSilence_drives (s := unselected s) hopen).silenced.of_states fun c => rfl
    exact (hoff.swapped hrecords).of_drive (by simp)
  · have howed : OkOwed r s (unselected s) := ⟨hnone, .inl ⟨rfl, hr⟩⟩
    exact howed.closeForSilence.performSwap.endExecuting.2

/-- A programme that is applied after them changes none of it. -/
theorem LostWithCommit.applyProgramme {t : State} (h : LostWithCommit s t) : LostWithCommit s (applyProgramme t) where
  timing := by simpa using h.timing
  flag := (flagsKept_applyProgramme t .marksSilent (by decide)).trans h.flag
  closed := by simpa using h.closed
  executing := applyProgramme_executing h.executing
  queue := by simpa using h.queue
  captures := by simpa using h.captures
  drives hopen := (h.drives hopen).of_drive (by simp)
  tables := by simpa using h.tables
  owed r hr hnone := by
    have hkept : (Machine.applyProgramme t).link = t.link := by
      unfold Machine.applyProgramme
      split
      · rfl
      · rw [endExecuting_none _ _ (by exact h.executing)]
    exact hkept.trans (h.owed r hr hnone)

end

/-- Settles O14: the selection after the expiry, and the closing and the pending changes where no source is left. -/
theorem silenceExpiryMovesTheSelection : Obligations.SilenceExpiryMovesTheSelection := by
  intro src first s timeout hrun hinv
  refine ⟨exec_silenceTimerExpiry_silent hrun, fun halive => ?_⟩
  have hexec := exec_silenceTimerExpiry_alive (first := first) hrun halive
  refine ⟨fun ha hb => ?_, fun hb ha => ?_, fun ha hb hcommit => ?_, fun ha hb hcommit => ?_⟩
  · subst ha
    rw [hexec, reevaluate_of_a_expired hinv halive hb]
    rfl
  · subst hb
    rw [hexec, reevaluate_of_b_expired hinv ha]
    rfl
  · have hlost := reevaluate_of_last_expired (first := first) hinv halive ha hb
    have hboth : (if first then closeForSilence (completeCommit (unselected s))
        else completeCommit (closeForSilence (unselected s))) = closeForSilence (unselected s) := by
      rw [completeCommit_of_none (s := unselected s) hcommit,
        completeCommit_of_none (s := closeForSilence (unselected s)) (by simpa [unselected] using hcommit), ite_self]
    rw [hboth] at hlost
    rw [hlost] at hexec
    obtain ⟨hcurrent, happlied⟩ := applyProgramme_engine (closeForSilence (unselected s))
    refine ⟨_, hexec, by simp [unselected], ?_, ?_, ?_, ?_, happlied, by simp [unselected], by simp [unselected],
      by simp [unselected], by simp [unselected], fun hopen hnone => ?_, fun hclosed => ?_, fun hnone hprogramme => ?_,
      fun r hr hnone hprogramme => ?_⟩
    · exact (flagsKept_applyProgramme _ .marksSilent (by decide)).trans (closeForSilence_flags _)
    · exact FlagsKept.trans (s := s) (t := closeForSilence (unselected s)) (flagsKept_closeForSilence (unselected s))
        (flagsKept_applyProgramme _).mono
    · simp only [applyProgramme_frame]
      exact closeForSilence_gate (unselected s)
    · simpa [unselected] using hcurrent
    · have hoff : DrivesSwitchedOff s (closeForSilence (unselected s)) :=
        (closeForSilence_drives (s := unselected s) hopen).of_agree rfl rfl rfl
      exact hoff.after (by simp) (by simp)
    · have hkept := closeForSilence_of_closed (s := unselected s) hclosed
      rw [hkept]
      simp [unselected]
    · obtain ⟨hlink, hexecuting⟩ := closeForSilence_quiet (s := unselected s) hnone
      rw [applyProgramme_of_none (by simpa [unselected] using hprogramme)]
      exact ⟨hlink, Mgmt.flags_only s.mgmt.flags (n := s.mgmt) hexecuting (by simp [unselected]) (by simp [unselected])⟩
    · have howed : OkOwed r s (unselected s) := ⟨hnone, .inl ⟨rfl, hr⟩⟩
      obtain ⟨hlink, hexecuting⟩ := howed.closeForSilence.programmeApplied (by simpa [unselected] using hprogramme)
      exact ⟨hlink, Mgmt.flags_only s.mgmt.flags (n := { s.mgmt with executing := none }) hexecuting (by simp [unselected])
        (by simp [unselected])⟩
  · have hlost := reevaluate_of_last_expired (first := first) hinv halive ha hb
    rw [hlost] at hexec
    have hcommitted : LostWithCommit s (applyProgramme (if first then closeForSilence (completeCommit (unselected s))
        else completeCommit (closeForSilence (unselected s)))) := by
      refine LostWithCommit.applyProgramme ?_
      split
      · exact lostWithCommit_swapFirst hcommit
      · exact lostWithCommit_closeFirst hcommit
    refine ⟨_, hexec, by rw [hcommitted.timing]; rfl, by rw [hcommitted.timing]; rfl, hcommitted.flag, hcommitted.closed,
      hcommitted.executing, hcommitted.drives, hcommitted.tables, fun r hr hnone => ⟨hcommitted.owed r hr hnone, ?_⟩⟩
    exact Mgmt.flags_only s.mgmt.flags (n := { s.mgmt with executing := none }) hcommitted.executing hcommitted.queue
      hcommitted.captures

end Sys2Proof.Machine

/-! The TOGETHER delivery (R118): the ranking, and the three rounds of updates. -/

namespace Sys2Proof.Machine

/-! ### The ranking (R118 step 4) -/

section
variable (step : Corner → Int) (c : Corner)

theorem mem_rankInsert {d : Corner} {cs : List Corner} : d ∈ rankInsert step c cs ↔ d = c ∨ d ∈ cs :=
  (rankInsert_perm step c cs).mem_iff.trans List.mem_cons

theorem rankInsert_sorted {cs : List Corner} (h : cs.Pairwise fun c d => step d ≤ step c) :
    (rankInsert step c cs).Pairwise fun c d => step d ≤ step c := by
  induction cs with
  | nil => exact List.pairwise_singleton _ c
  | cons d ds ih =>
    obtain ⟨hd, hds⟩ := List.pairwise_cons.mp h
    unfold rankInsert
    split
    · next hlt =>
      refine List.pairwise_cons.mpr ⟨fun x hx => ?_, h⟩
      rcases List.mem_cons.mp hx with rfl | hx
      · exact hlt.le
      · exact (hd x hx).trans hlt.le
    · next hge =>
      refine List.pairwise_cons.mpr ⟨fun x hx => ?_, ih hds⟩
      rcases (mem_rankInsert step c).mp hx with rfl | hx
      · exact not_lt.mp hge
      · exact hd x hx

/-- A corner is placed behind every corner of its own step. -/
theorem filter_rankInsert {cs : List Corner} (h : cs.Pairwise fun c d => step d ≤ step c) (v : Int) :
    (rankInsert step c cs).filter (fun d => step d == v) =
      cs.filter (fun d => step d == v) ++ [c].filter (fun d => step d == v) := by
  induction cs with
  | nil => rfl
  | cons d ds ih =>
    obtain ⟨hd, hds⟩ := List.pairwise_cons.mp h
    unfold rankInsert
    split
    · next hlt =>
      by_cases hv : step c = v
      · have hnone : (d :: ds).filter (fun d => step d == v) = [] := by
          refine List.filter_eq_nil_iff.mpr fun x hx => ?_
          have hle : step x ≤ step d := by
            rcases List.mem_cons.mp hx with rfl | hx
            exacts [le_refl _, hd x hx]
          simp only [beq_iff_eq]
          omega
        rw [List.filter_cons, hnone]
        simp [hv]
      · simp [hv, List.filter_cons]
    · rw [List.filter_cons, ih hds]
      by_cases hv : step d = v <;> simp [hv]

end

theorem rank_sorted_filter (step : Corner → Int) (cs ranked : List Corner)
    (h : ranked.Pairwise fun c d => step d ≤ step c) :
    (cs.foldl (fun ranked c => rankInsert step c ranked) ranked).Pairwise (fun c d => step d ≤ step c) ∧
      ∀ v : Int, (cs.foldl (fun ranked c => rankInsert step c ranked) ranked).filter (fun c => step c == v) =
        ranked.filter (fun c => step c == v) ++ cs.filter (fun c => step c == v) := by
  induction cs generalizing ranked with
  | nil => exact ⟨h, fun v => by simp⟩
  | cons c cs ih =>
    obtain ⟨hsorted, hfilter⟩ := ih _ (rankInsert_sorted step c h)
    refine ⟨hsorted, fun v => ?_⟩
    rw [List.foldl_cons, hfilter, filter_rankInsert step c h, List.append_assoc, ← List.filter_append]
    rfl

/-! ### The three rounds -/

section
variable (targets : PerCorner Nat) (s : State)

/-- The monitor items of a corner whose target an update may have moved (R130). -/
def unsettled (c : Corner) : MonitorRecord :=
  if broughtTo targets s c = (s.corner c).target then s.monitorOf c else settling s

/-- A corner held at its new target in the state it was in. -/
def retargeted (c : Corner) : DriveRecord × MonitorRecord :=
  ({ s.corner c with target := broughtTo targets s c, duty := feedForward s c (broughtTo targets s c) }, unsettled targets s c)

/-- A corner that has gone to HOLD at its new target. -/
def heldAgain (c : Corner) : DriveRecord × MonitorRecord :=
  ({ s.corner c with state := .hold, target := broughtTo targets s c, duty := feedForward s c (broughtTo targets s c) },
    settling s)

/-- A corner that has gone to BOOST at its new target, with these monitor items. -/
def boosted (c : Corner) (m : MonitorRecord) : DriveRecord × MonitorRecord :=
  ({ s.corner c with
    state := .boost s.tables.active.boostTimeout, target := broughtTo targets s c, duty := 980 }, m)

/-- A corner that has gone to WAIT at its new target. -/
def waits (c : Corner) : DriveRecord × MonitorRecord :=
  ({ s.corner c with
    state := .wait (s.corner c).target
    target := broughtTo targets s c
    duty := feedForward s c (broughtTo targets s c) }, settling s)

/-- What the first round makes of a corner in WAIT. -/
def firstRound (c : Corner) : DriveRecord × MonitorRecord :=
  if requestStands targets s c then retargeted targets s c else heldAgain targets s c

/-- What the second round makes of a corner in HOLD or BOOST. -/
def secondRound (c : Corner) : DriveRecord × MonitorRecord :=
  if (s.corner c).state = .hold then retargeted targets s c
  else if boostLowered targets s c then heldAgain targets s c
  else ({ s.corner c with target := broughtTo targets s c, duty := 980 }, s.monitorOf c)

end

/-- A delivery under way: everything but the records, the lists and the monitor items is as it was, no test runs. -/
structure UnderWay (s t : State) : Prop where
  quiet : SameRequests s t
  tables : t.tables = s.tables
  supply : t.supply = s.supply

section
variable {targets : PerCorner Nat} {s t : State} {c : Corner}

theorem UnderWay.refl (s : State) : UnderWay s s := ⟨.refl s, rfl, rfl⟩

theorem UnderWay.noTest (h : UnderWay s t) (hnone : NoTest s) : NoTest t := h.quiet.noTest hnone

theorem UnderWay.updateTarget (h : UnderWay s t) (hnone : NoTest s) (c : Corner) (x : Nat) :
    UnderWay s (updateTarget c x t) :=
  ⟨h.quiet.trans ((h.noTest hnone).updateTarget c x), by simp [h.tables], by simp [h.supply]⟩

theorem UnderWay.settling (h : UnderWay s t) : settling t = settling s := by rw [Machine.settling, Machine.settling, h.tables]

theorem UnderWay.feedForward (h : UnderWay s t) (c : Corner) (i : Nat) : feedForward t c i = feedForward s c i :=
  feedForward_of (congrArg Tables.active h.tables) (congrArg Supply.sample h.supply) c i

theorem UnderWay.clampCurrent (h : UnderWay s t) (c : Corner) :
    t.tables.active.clampCurrent c (targets.get c) = broughtTo targets s c := by
  rw [h.tables]
  rfl

theorem OnlyCorners.both {cs : List Corner} (h : OnlyCorners s t cs) {d : Corner} (hd : d ∉ cs) : t.both d = s.both d := by
  obtain ⟨hcorner, hmonitor⟩ := h d hd
  rw [State.both, State.both, hcorner, hmonitor]

theorem both_inj {d : Corner} (h : t.both d = s.both d) : t.corner d = s.corner d ∧ t.monitorOf d = s.monitorOf d :=
  Prod.mk.inj h

/-! ### The first round: corners in WAIT (R118 step 2) -/

/-- The first round after the updates of some corners. -/
structure FirstRound (targets : PerCorner Nat) (s t : State) (cs : List Corner) : Prop where
  underWay : UnderWay s t
  slots : t.drive.slots = s.drive.slots
  waiting : t.drive.waiting = s.drive.waiting.filter fun c => !decide (c ∈ cs) || requestStands targets s c
  updated : ∀ c ∈ cs, t.both c = firstRound targets s c
  others : ∀ c, c ∉ cs → t.both c = s.both c

theorem requestStands_of_wait {base : Nat} (h : (s.corner c).state = .wait base) :
    requestStands targets s c = decide ((s.tables.active.boostStep : Int) ≤ (broughtTo targets s c : Int) - base) := by
  simp only [requestStands, h]

/-- One update of the first round. -/
theorem FirstRound.update {cs : List Corner} (h : FirstRound targets s t cs) (hnone : NoTest s) (hnodup : s.drive.waiting.Nodup)
    (hc : c ∉ cs) {base : Nat} (hwait : (s.corner c).state = .wait base) :
    FirstRound targets s (updateTarget c (targets.get c) t) (cs ++ [c]) := by
  have hquiet := h.underWay.noTest hnone
  obtain ⟨hcorner, hmonitor⟩ := both_inj (h.others c hc)
  have hwait' : (t.corner c).state = .wait base := by rw [hcorner, hwait]
  have hothers := onlyCorners_updateTarget (c := c) (targets.get c) hquiet fun timeout hboost => by
    cases hwait'.symm.trans hboost
  have heffect : (updateTarget c (targets.get c) t).both c = firstRound targets s c ∧
      (updateTarget c (targets.get c) t).drive.slots = t.drive.slots ∧
      (updateTarget c (targets.get c) t).drive.waiting =
        if requestStands targets s c then t.drive.waiting else t.drive.waiting.erase c := by
    rw [firstRound, requestStands_of_wait hwait]
    rcases lt_or_ge ((broughtTo targets s c : Int) - base) s.tables.active.boostStep with hlow | hhigh
    · obtain ⟨hrecord, hitems, hslots, hwaiting⟩ :=
        updateTarget_withdraws_at_wait (targets.get c) hquiet hwait' (h.underWay.clampCurrent c) (by rw [h.underWay.tables]; exact hlow)
      have hnot : ¬ (s.tables.active.boostStep : Int) ≤ (broughtTo targets s c : Int) - base := not_le.mpr hlow
      rw [decide_eq_false hnot, State.both, hrecord, hitems, hcorner, h.underWay.settling, h.underWay.feedForward]
      exact ⟨rfl, hslots, hwaiting⟩
    · obtain ⟨hrecord, hitems, hslots, hwaiting⟩ :=
        updateTarget_stands_at_wait (targets.get c) hquiet hwait' (h.underWay.clampCurrent c) (by rw [h.underWay.tables]; exact hhigh)
      rw [decide_eq_true hhigh, State.both, hrecord, hitems, hcorner, hmonitor, h.underWay.settling, h.underWay.feedForward]
      exact ⟨rfl, hslots, hwaiting⟩
  obtain ⟨hboth, hslots, hwaiting⟩ := heffect
  refine ⟨h.underWay.updateTarget hnone c _, hslots.trans h.slots, ?_, fun d hd => ?_, fun d hd => ?_⟩
  · rw [hwaiting, h.waiting]
    split
    · next hstands =>
      refine List.filter_congr fun d _ => ?_
      by_cases hdc : d = c
      · simp [hdc, hstands]
      · simp [hdc]
    · next hfalls =>
      rw [(hnodup.filter _).erase_eq_filter, List.filter_filter]
      refine List.filter_congr fun d _ => ?_
      by_cases hdc : d = c
      · simp [hdc, hfalls]
      · simp [hdc]
  · by_cases hdc : d = c
    · rw [hdc, hboth]
    · have hmem : d ∈ cs := by simpa [hdc] using hd
      rw [hothers.both (by simpa using hdc), h.updated d hmem]
  · simp only [List.mem_append, List.mem_cons, List.not_mem_nil, or_false, not_or] at hd
    rw [hothers.both (by simpa using hd.2), h.others d hd.1]

theorem firstRound_all (hnone : NoTest s) (hnodup : s.drive.waiting.Nodup) {cs : List Corner} (hcs : cs.Nodup)
    (hwait : ∀ c ∈ cs, ∃ base, (s.corner c).state = .wait base) :
    FirstRound targets s (cs.foldl (fun s' c => updateTarget c (targets.get c) s') s) cs := by
  induction cs using List.reverseRecOn with
  | nil => exact ⟨.refl s, rfl, by simp, by simp, fun _ _ => rfl⟩
  | append_singleton cs c ih =>
    obtain ⟨hcs, -, hc⟩ := List.nodup_append.mp hcs
    obtain ⟨base, hbase⟩ := hwait c (by simp)
    rw [List.foldl_append]
    exact (ih hcs fun d hd => hwait d (by simp [hd])).update hnone hnodup (fun hmem => hc c hmem c (by simp) rfl) hbase

end

end Sys2Proof.Machine

/-! The second and the third round of a TOGETHER delivery (R118 steps 3 and 4). -/

namespace Sys2Proof.Machine

section
variable {targets : PerCorner Nat} {s t first : State} {c : Corner}

/-! ### The second round: corners in HOLD below the boost step and in BOOST (R118 step 3) -/

/-- How many slots the lowered targets of some corners free. -/
def loweredIn (targets : PerCorner Nat) (s : State) (cs : List Corner) : Nat := (cs.filter (boostLowered targets s)).length

/-- The second round after the updates of some corners, from the state that the first has left. -/
structure SecondRound (targets : PerCorner Nat) (s first t : State) (cs : List Corner) : Prop where
  underWay : UnderWay s t
  slots : t.drive.slots = s.drive.slots.filter (fun c => !(decide (c ∈ cs) && boostLowered targets s c)) ++
    (keptWaiting targets s).take (loweredIn targets s cs)
  slots_le : t.drive.slots.length ≤ 2
  waiting : t.drive.waiting = (keptWaiting targets s).drop (loweredIn targets s cs)
  updated : ∀ c ∈ cs, t.both c = secondRound targets s c
  granted : ∀ c ∈ (keptWaiting targets s).take (loweredIn targets s cs),
    t.both c = boosted targets s c (unsettled targets s c)
  others : ∀ c, c ∉ cs → c ∉ (keptWaiting targets s).take (loweredIn targets s cs) → t.both c = first.both c

theorem boostLowered_of_boost {timeout : Nat} (h : (s.corner c).state = .boost timeout) :
    boostLowered targets s c = decide (broughtTo targets s c < (s.corner c).target) := by
  simp only [boostLowered, h]

theorem boostLowered_of_hold (h : (s.corner c).state = .hold) : boostLowered targets s c = false := by
  simp only [boostLowered, h]

theorem secondRound_of_hold (h : (s.corner c).state = .hold) : secondRound targets s c = retargeted targets s c := if_pos h

theorem secondRound_of_boost {timeout : Nat} (h : (s.corner c).state = .boost timeout) :
    secondRound targets s c =
      if boostLowered targets s c then heldAgain targets s c
      else ({ s.corner c with target := broughtTo targets s c, duty := 980 }, s.monitorOf c) := by
  rw [secondRound, if_neg (by rw [h]; exact fun heq => nomatch heq)]

theorem loweredIn_append (cs : List Corner) (c : Corner) :
    loweredIn targets s (cs ++ [c]) = loweredIn targets s cs + if boostLowered targets s c then 1 else 0 := by
  rw [loweredIn, loweredIn, List.filter_append, List.length_append, List.filter_singleton]
  cases boostLowered targets s c <;> rfl

/-- An update of the second round that frees no slot. -/
theorem SecondRound.update_kept {cs : List Corner} (h : SecondRound targets s first t cs) {t' : State} (hunder : UnderWay s t')
    (hc : c ∉ keptWaiting targets s) (hlow : boostLowered targets s c = false) (hboth : t'.both c = secondRound targets s c)
    (hothers : OnlyCorners t t' [c]) (hslots : t'.drive.slots = t.drive.slots) (hwaiting : t'.drive.waiting = t.drive.waiting) :
    SecondRound targets s first t' (cs ++ [c]) := by
  have hcount : loweredIn targets s (cs ++ [c]) = loweredIn targets s cs := by rw [loweredIn_append, hlow]; rfl
  have hne {d : Corner} (hd : d ∈ keptWaiting targets s) : d ∉ [c] := fun heq => hc (List.mem_singleton.mp heq ▸ hd)
  refine ⟨hunder, ?_, by rw [hslots]; exact h.slots_le, by rw [hwaiting, h.waiting, hcount], fun d hd => ?_, fun d hd => ?_,
    fun d hd hgranted => ?_⟩
  · rw [hslots, h.slots, hcount]
    congr 1
    refine List.filter_congr fun d _ => ?_
    by_cases hdc : d = c
    · simp [hdc, hlow]
    · simp [hdc]
  · by_cases hdc : d = c
    · rw [hdc, hboth]
    · rw [hothers.both (by simpa using hdc), h.updated d (by simpa [hdc] using hd)]
  · rw [hcount] at hd
    rw [hothers.both (hne (List.mem_of_mem_take hd)), h.granted d hd]
  · rw [hcount] at hgranted
    simp only [List.mem_append, not_or] at hd
    rw [hothers.both hd.2, h.others d hd.1 hgranted]

/-- An update of the second round that frees its slot for the head of the pending list. -/
theorem SecondRound.update_freed {cs : List Corner} (h : SecondRound targets s first t cs) {t' : State} (hunder : UnderWay s t')
    (hfirst : ∀ d ∈ keptWaiting targets s, first.both d = retargeted targets s d) (hdisjoint : ∀ d ∈ keptWaiting targets s, d ∉ cs)
    (hkept : (keptWaiting targets s).Nodup) (hnodup : s.drive.slots.Nodup) (hc : c ∉ keptWaiting targets s)
    (hmem : c ∈ s.drive.slots) (hnew : c ∉ cs) (hlow : boostLowered targets s c = true)
    (hboth : t'.both c = secondRound targets s c) (hpassed : SlotPassedOn t t' c) :
    SecondRound targets s first t' (cs ++ [c]) := by
  have hcount : loweredIn targets s (cs ++ [c]) = loweredIn targets s cs + 1 := by rw [loweredIn_append, hlow]; rfl
  have hstill : c ∈ s.drive.slots.filter (fun c => !(decide (c ∈ cs) && boostLowered targets s c)) := by
    simp [hmem, hnew]
  have herase : t.drive.slots.erase c =
      s.drive.slots.filter (fun d => !(decide (d ∈ cs ++ [c]) && boostLowered targets s d)) ++
        (keptWaiting targets s).take (loweredIn targets s cs) := by
    rw [h.slots, List.erase_append_left _ hstill, (hnodup.filter _).erase_eq_filter, List.filter_filter]
    congr 1
    refine List.filter_congr fun d _ => ?_
    by_cases hdc : d = c
    · simp [hdc, hlow]
    · simp [hdc]
  have hlength : (t.drive.slots.erase c).length + 1 ≤ 2 := by
    have hin : c ∈ t.drive.slots := by rw [h.slots]; exact List.mem_append_left _ hstill
    have hpos := List.length_pos_of_mem hin
    have hle := h.slots_le
    rw [List.length_erase_of_mem hin]
    omega
  have hupdated (hothers : ∀ d, d ∈ cs → t'.both d = t.both d) (d : Corner) (hd : d ∈ cs ++ [c]) :
      t'.both d = secondRound targets s d := by
    rcases List.mem_append.mp hd with hd | hd
    · rw [hothers d hd, h.updated d hd]
    · rw [List.mem_singleton.mp hd, hboth]
  unfold SlotPassedOn at hpassed
  cases hwaiting : t.drive.waiting with
  | nil =>
    rw [hwaiting] at hpassed
    obtain ⟨hslots, hlist, hothers⟩ := hpassed
    have hempty : (keptWaiting targets s).length ≤ loweredIn targets s cs := by
      rw [← List.drop_eq_nil_iff, ← h.waiting, hwaiting]
    have htake : (keptWaiting targets s).take (loweredIn targets s cs + 1) =
        (keptWaiting targets s).take (loweredIn targets s cs) := by
      rw [List.take_of_length_le hempty, List.take_of_length_le (hempty.trans (Nat.le_succ _))]
    refine ⟨hunder, by rw [hslots, herase, hcount, htake], by rw [hslots]; omega, ?_, hupdated fun d hd => ?_, fun d hd => ?_,
      fun d hd hgranted => ?_⟩
    · rw [hlist, hcount, List.drop_eq_nil_of_le (hempty.trans (Nat.le_succ _))]
    · exact hothers.both fun heq => hnew (List.mem_singleton.mp heq ▸ hd)
    · rw [hcount, htake] at hd
      rw [hothers.both fun heq => hc (List.mem_singleton.mp heq ▸ List.mem_of_mem_take hd), h.granted d hd]
    · rw [hcount, htake] at hgranted
      simp only [List.mem_append, not_or] at hd
      rw [hothers.both hd.2, h.others d hd.1 hgranted]
  | cons e rest =>
    rw [hwaiting] at hpassed
    obtain ⟨hslots, hlist, hrecord, hitems, hothers⟩ := hpassed
    have hsplit : (keptWaiting targets s).drop (loweredIn targets s cs) = e :: rest := by rw [← h.waiting, hwaiting]
    have htake : (keptWaiting targets s).take (loweredIn targets s cs + 1) =
        (keptWaiting targets s).take (loweredIn targets s cs) ++ [e] := by
      rw [List.take_add, hsplit]
      rfl
    have hdrop : (keptWaiting targets s).drop (loweredIn targets s cs + 1) = rest := by
      rw [← List.drop_drop, hsplit]
      rfl
    have he : e ∈ keptWaiting targets s := List.mem_of_mem_drop (hsplit ▸ List.mem_cons_self)
    have hnotYet : e ∉ (keptWaiting targets s).take (loweredIn targets s cs) := fun hin => by
      have hparts := List.take_append_drop (loweredIn targets s cs) (keptWaiting targets s) ▸ hkept
      exact (List.nodup_append.mp hparts).2.2 e hin e (hsplit ▸ List.mem_cons_self) rfl
    obtain ⟨hcorner, hmonitor⟩ := Prod.mk.inj ((h.others e (hdisjoint e he) hnotYet).trans (hfirst e he))
    have hhead : t'.both e = boosted targets s e (unsettled targets s e) := by
      rw [State.both, hrecord, hitems, hcorner, hmonitor, h.underWay.tables]
      rfl
    have hkeeps {d : Corner} (hdc : d ≠ c) (hde : d ≠ e) : t'.both d = t.both d := hothers.both (by simp [hdc, hde])
    refine ⟨hunder, by rw [hslots, herase, hcount, htake, List.append_assoc], ?_, by rw [hlist, hcount, hdrop],
      hupdated fun d hd => ?_, fun d hd => ?_, fun d hd hgranted => ?_⟩
    · rw [hslots, List.length_append]
      exact hlength
    · exact hkeeps (fun heq => hnew (heq ▸ hd)) fun heq => hdisjoint e he (heq ▸ hd)
    · rw [hcount, htake] at hd
      rcases List.mem_append.mp hd with hin | hin
      · rw [hkeeps (fun heq => hc (heq ▸ List.mem_of_mem_take hin)) (fun heq => hnotYet (heq ▸ hin)), h.granted d hin]
      · rw [List.mem_singleton.mp hin, hhead]
    · rw [hcount, htake] at hgranted
      simp only [List.mem_append, List.mem_singleton, not_or] at hd hgranted
      rw [hkeeps hd.2 hgranted.2, h.others d hd.1 hgranted.1]

end

end Sys2Proof.Machine

/-! The TOGETHER delivery as a whole (R111, R118). -/

namespace Sys2Proof.Machine

section
variable {targets : PerCorner Nat} {s t first second : State} {c : Corner}

/-! ### Which corners each round updates (R118 step 1) -/

theorem classify_wait : classify s c (targets.get c) = .waitUpdate ↔ ∃ base, (s.corner c).state = .wait base := by
  unfold classify
  cases hs : (s.corner c).state with
  | hold => by_cases h : stepsUp s (s.tables.active.clampCurrent c (targets.get c)) (s.corner c).target <;> simp [h]
  | off | fault | wait | boost => simp

theorem classify_request : classify s c (targets.get c) = .request ↔ asksForBoost targets s c = true := by
  unfold classify asksForBoost
  cases hs : (s.corner c).state with
  | hold =>
    simp only [decide_true, Bool.true_and]
    split
    · next h => exact iff_of_true rfl h
    · next h => exact iff_of_false (fun heq => nomatch heq) h
  | off | fault | wait | boost => simp

theorem classify_direct : classify s c (targets.get c) = .direct ↔
    ((s.corner c).state = .hold ∧ asksForBoost targets s c = false) ∨ ∃ timeout, (s.corner c).state = .boost timeout := by
  cases hs : (s.corner c).state with
  | hold =>
    have hrequest := classify_request (targets := targets) (s := s) (c := c)
    have hcases : classify s c (targets.get c) = .request ∨ classify s c (targets.get c) = .direct := by
      unfold classify
      simp only [hs]
      split
      exacts [.inl rfl, .inr rfl]
    rcases hcases with h | h
    · simp [h, hrequest.mp h]
    · have hnot : ¬ asksForBoost targets s c = true := fun hasks => by
        rw [hrequest.mpr hasks] at h
        cases h
      simp [h, hnot]
  | off | fault | wait | boost => simp [classify, hs]

theorem requestStands_wait (h : requestStands targets s c = true) : ∃ base, (s.corner c).state = .wait base := by
  unfold requestStands at h
  split at h
  · next base hbase => exact ⟨base, hbase⟩
  · cases h

theorem boostLowered_boost (h : boostLowered targets s c = true) : ∃ timeout, (s.corner c).state = .boost timeout := by
  unfold boostLowered at h
  split at h
  · next timeout htimeout => exact ⟨timeout, htimeout⟩
  · cases h

theorem mem_keptWaiting (h : c ∈ keptWaiting targets s) : ∃ base, (s.corner c).state = .wait base :=
  requestStands_wait (List.of_mem_filter h)

/-- What the first round makes of the corners in WAIT, and leaves of the others. -/
theorem firstRound_of_classes (hlists : ListsLawful s.drive.slots s.drive.waiting s.states) (hnone : NoTest s) :
    FirstRound targets s ((cornersIn s targets .waitUpdate).foldl (fun s' c => updateTarget c (targets.get c) s') s)
      (cornersIn s targets .waitUpdate) ∧
      ((cornersIn s targets .waitUpdate).foldl (fun s' c => updateTarget c (targets.get c) s') s).drive.waiting =
        keptWaiting targets s := by
  have hround := firstRound_all (targets := targets) hnone hlists.waiting_nodup (cs := cornersIn s targets .waitUpdate)
    (corners_nodup.filter _) fun c hc => classify_wait.mp ((mem_cornersIn s targets .waitUpdate c).mp hc)
  refine ⟨hround, hround.waiting.trans (List.filter_congr fun d hd => ?_)⟩
  have hmem : d ∈ cornersIn s targets .waitUpdate :=
    (mem_cornersIn s targets .waitUpdate d).mpr (classify_wait.mpr ((hlists.mem_waiting d).mp hd))
  simp [hmem]

/-! ### The second round over its corners -/

/-- One update of the second round. -/
theorem SecondRound.update {cs : List Corner} (h : SecondRound targets s first t cs)
    (hlists : ListsLawful s.drive.slots s.drive.waiting s.states) (hnone : NoTest s)
    (hfirst : ∀ d ∈ keptWaiting targets s, first.both d = retargeted targets s d)
    (hdisjoint : ∀ d ∈ keptWaiting targets s, d ∉ cs) (hsame : first.both c = s.both c) (hnew : c ∉ cs)
    (hdirect : classify s c (targets.get c) = .direct) :
    SecondRound targets s first (updateTarget c (targets.get c) t) (cs ++ [c]) := by
  have hnotWaiting : c ∉ keptWaiting targets s := fun hmem => by
    obtain ⟨base, hbase⟩ := mem_keptWaiting hmem
    rw [classify_wait.mpr ⟨base, hbase⟩] at hdirect
    cases hdirect
  have hquiet := h.underWay.noTest hnone
  have hunder := h.underWay.updateTarget hnone c (targets.get c)
  obtain ⟨hcorner, hmonitor⟩ :=
    both_inj ((h.others c hnew fun hmem => hnotWaiting (List.mem_of_mem_take hmem)).trans hsame)
  rcases classify_direct.mp hdirect with ⟨hhold, hasks⟩ | ⟨timeout, hboost⟩
  · have hhold' : (t.corner c).state = .hold := by rw [hcorner, hhold]
    have hstep : (broughtTo targets s c : Int) - (t.corner c).target < t.tables.active.boostStep := by
      rw [asksForBoost, hhold, decide_eq_true rfl, Bool.true_and, decide_eq_false_iff_not, not_le] at hasks
      rw [hcorner, h.underWay.tables]
      exact hasks
    obtain ⟨hrecord, hitems, hslots, hwaiting⟩ :=
      updateTarget_low_at_hold (targets.get c) hquiet hhold' (h.underWay.clampCurrent c) hstep
    refine h.update_kept hunder hnotWaiting (boostLowered_of_hold hhold) ?_
      (onlyCorners_updateTarget _ hquiet fun x hx => by cases hhold'.symm.trans hx) hslots hwaiting
    rw [secondRound_of_hold hhold, State.both, hrecord, hitems, hcorner, hmonitor, h.underWay.settling, h.underWay.feedForward]
    rfl
  · have hboost' : (t.corner c).state = .boost timeout := by rw [hcorner, hboost]
    have hlowered := boostLowered_of_boost (targets := targets) hboost
    rcases Nat.lt_or_ge (broughtTo targets s c) (s.corner c).target with hlt | hge
    · rw [decide_eq_true hlt] at hlowered
      have hmem : c ∈ s.drive.slots := (hlists.mem_slots c).mpr ⟨timeout, hboost⟩
      have hin : c ∈ t.drive.slots := by
        rw [h.slots]
        exact List.mem_append_left _ (by simp [hmem, hnew])
      have hout : c ∉ t.drive.waiting := by
        rw [h.waiting]
        exact fun hmem => hnotWaiting (List.mem_of_mem_drop hmem)
      obtain ⟨hrecord, hitems, hpassed⟩ :=
        endBoost_of_lists (i := broughtTo targets s c) hin h.slots_le hout hquiet
      have hends : updateTarget c (targets.get c) t = endBoost c (broughtTo targets s c) t := by
        rw [updateTarget_of_boost (targets.get c) hboost', h.underWay.clampCurrent c, hcorner, if_neg (Nat.not_le.mpr hlt)]
      rw [hends] at hunder ⊢
      refine h.update_freed hunder hfirst hdisjoint (hlists.waiting_nodup.filter _) hlists.slots_nodup hnotWaiting hmem hnew
        hlowered ?_ hpassed
      rw [secondRound_of_boost hboost, if_pos hlowered, State.both, hrecord, hitems, hcorner, h.underWay.settling,
        h.underWay.feedForward]
      rfl
    · rw [decide_eq_false (Nat.not_lt.mpr hge)] at hlowered
      obtain ⟨hrecord, hitems, hothers, hslots, hwaiting⟩ :=
        updateTarget_goesOn_at_boost (targets.get c) hboost' (h.underWay.clampCurrent c) (by rw [hcorner]; exact hge)
      refine h.update_kept hunder hnotWaiting hlowered ?_ hothers hslots hwaiting
      rw [secondRound_of_boost hboost, hlowered, State.both, hrecord, hitems, hcorner, hmonitor]
      rfl

theorem secondRound_all (hfirst : FirstRound targets s first (cornersIn s targets .waitUpdate))
    (hwaiting : first.drive.waiting = keptWaiting targets s)
    (hlists : ListsLawful s.drive.slots s.drive.waiting s.states) (hnone : NoTest s) {cs : List Corner} (hcs : cs.Nodup)
    (hdirect : ∀ c ∈ cs, classify s c (targets.get c) = .direct) :
    SecondRound targets s first (cs.foldl (fun s' c => updateTarget c (targets.get c) s') first) cs := by
  induction cs using List.reverseRecOn with
  | nil =>
    refine ⟨hfirst.underWay, ?_, by rw [List.foldl_nil, hfirst.slots]; exact hlists.slots_le, hwaiting, by simp,
      fun c hc => absurd hc (by simp [loweredIn]), fun _ _ _ => rfl⟩
    simp [hfirst.slots, loweredIn]
  | append_singleton cs c ih =>
    obtain ⟨hcs, -, hc⟩ := List.nodup_append.mp hcs
    have hclass (d : Corner) (hd : classify s d (targets.get d) = .direct) : d ∉ cornersIn s targets .waitUpdate := fun hmem => by
      rw [(mem_cornersIn s targets .waitUpdate d).mp hmem] at hd
      cases hd
    have hkept (d : Corner) (hd : d ∈ keptWaiting targets s) : classify s d (targets.get d) = .waitUpdate :=
      classify_wait.mpr (mem_keptWaiting hd)
    rw [List.foldl_append]
    refine (ih hcs fun d hd => hdirect d (by simp [hd])).update hlists hnone (fun d hd => ?_) (fun d hd hmem => ?_)
      (hfirst.others c (hclass c (hdirect c (by simp)))) (fun hmem => hc c hmem c (by simp) rfl) (hdirect c (by simp))
    · rw [hfirst.updated d ((mem_cornersIn s targets .waitUpdate d).mpr (hkept d hd)), firstRound,
        if_pos (List.of_mem_filter hd)]
    · cases (hkept d hd).symm.trans (hdirect d (by simp [hmem]))

/-! ### The third round: the requests down the ranking (R118 step 4) -/

/-- The third round after some requests, from the state that the second has left. -/
structure ThirdRound (targets : PerCorner Nat) (s second t : State) (cs : List Corner) : Prop where
  underWay : UnderWay s t
  slots : t.drive.slots = second.drive.slots ++ cs.take (2 - second.drive.slots.length)
  waiting : t.drive.waiting = second.drive.waiting ++ cs.drop (2 - second.drive.slots.length)
  granted : ∀ c ∈ cs.take (2 - second.drive.slots.length), t.both c = boosted targets s c (s.monitorOf c)
  left : ∀ c ∈ cs.drop (2 - second.drive.slots.length), t.both c = waits targets s c
  others : ∀ c, c ∉ cs → t.both c = second.both c

/-- One request of the third round. -/
theorem ThirdRound.request {cs : List Corner} (h : ThirdRound targets s second t cs) (hnone : NoTest s) (hnew : c ∉ cs)
    (hsame : second.both c = s.both c) :
    ThirdRound targets s second (requestBoost c (broughtTo targets s c) t) (cs ++ [c]) := by
  have hquiet := h.underWay.noTest hnone
  have hunder : UnderWay s (requestBoost c (broughtTo targets s c) t) :=
    ⟨h.underWay.quiet.trans (sameRequests_requestBoost _ (hquiet c)), by simp [h.underWay.tables],
      by simp [h.underWay.supply]⟩
  obtain ⟨hcorner, hmonitor⟩ := both_inj ((h.others c hnew).trans hsame)
  have hlength : t.drive.slots.length = second.drive.slots.length + min (2 - second.drive.slots.length) cs.length := by
    rw [h.slots, List.length_append, List.length_take]
  rcases Nat.lt_or_ge cs.length (2 - second.drive.slots.length) with hlt | hge
  · have hfree : t.drive.slots.length < 2 := by omega
    have htake : (cs ++ [c]).take (2 - second.drive.slots.length) = cs.take (2 - second.drive.slots.length) ++ [c] := by
      rw [List.take_of_length_le (by simpa using hlt), List.take_of_length_le hlt.le]
    have hdrop : (cs ++ [c]).drop (2 - second.drive.slots.length) = cs.drop (2 - second.drive.slots.length) := by
      rw [List.drop_eq_nil_of_le (by simpa using hlt), List.drop_eq_nil_of_le hlt.le]
    rw [requestBoost_of_free hfree] at hunder ⊢
    obtain ⟨hrecord, hitems, hothers⟩ := toBoost_at (i := broughtTo targets s c) (hquiet c)
    have hkeeps {d : Corner} (hd : d ∈ cs) := hothers.both (d := d) fun heq => hnew (List.mem_singleton.mp heq ▸ hd)
    refine ⟨hunder, by simp [h.slots, htake], by simp [h.waiting, hdrop], fun d hd => ?_, fun d hd => ?_, fun d hd => ?_⟩
    · rw [htake] at hd
      rcases List.mem_append.mp hd with hd | hd
      · rw [hkeeps (List.mem_of_mem_take hd), h.granted d hd]
      · rw [List.mem_singleton.mp hd, State.both, hrecord, hitems, hcorner, hmonitor, h.underWay.tables]
        rfl
    · rw [hdrop] at hd
      rw [hkeeps (List.mem_of_mem_drop hd), h.left d hd]
    · simp only [List.mem_append, not_or] at hd
      rw [hothers.both hd.2, h.others d hd.1]
  · have hfull : 2 ≤ t.drive.slots.length := by omega
    have htake : (cs ++ [c]).take (2 - second.drive.slots.length) = cs.take (2 - second.drive.slots.length) :=
      List.take_append_of_le_length hge
    have hdrop : (cs ++ [c]).drop (2 - second.drive.slots.length) = cs.drop (2 - second.drive.slots.length) ++ [c] :=
      List.drop_append_of_le_length hge
    rw [requestBoost_of_full hfull] at hunder ⊢
    obtain ⟨hrecord, hitems, hothers⟩ := toWait_at (s := t) (c := c) (i := broughtTo targets s c)
    have hkeeps {d : Corner} (hd : d ∈ cs) := hothers.both (d := d) fun heq => hnew (List.mem_singleton.mp heq ▸ hd)
    refine ⟨hunder, by simp [h.slots, htake], by simp [h.waiting, hdrop], fun d hd => ?_, fun d hd => ?_, fun d hd => ?_⟩
    · rw [htake] at hd
      rw [hkeeps (List.mem_of_mem_take hd), h.granted d hd]
    · rw [hdrop] at hd
      rcases List.mem_append.mp hd with hd | hd
      · rw [hkeeps (List.mem_of_mem_drop hd), h.left d hd]
      · rw [List.mem_singleton.mp hd, State.both, hrecord, hitems, hcorner, h.underWay.settling, h.underWay.feedForward]
        rfl
    · simp only [List.mem_append, not_or] at hd
      rw [hothers.both hd.2, h.others d hd.1]

theorem thirdRound_all (hsecond : UnderWay s second) (hnone : NoTest s) {cs : List Corner} (hcs : cs.Nodup)
    (hsame : ∀ c ∈ cs, second.both c = s.both c) :
    ThirdRound targets s second
      (cs.foldl (fun s' c => requestBoost c (s.tables.active.clampCurrent c (targets.get c)) s') second) cs := by
  induction cs using List.reverseRecOn with
  | nil => exact ⟨hsecond, by simp, by simp, by simp, by simp, fun _ _ => rfl⟩
  | append_singleton cs c ih =>
    obtain ⟨hcs, -, hc⟩ := List.nodup_append.mp hcs
    rw [List.foldl_append]
    exact (ih hcs fun d hd => hsame d (by simp [hd])).request hnone (fun hmem => hc c hmem c (by simp) rfl) (hsame c (by simp))

end

/-! ### The delivery -/

section
variable {targets : PerCorner Nat} {s : State}

theorem loweredIn_direct : loweredIn targets s (cornersIn s targets .direct) = freedSlots targets s := by
  rw [loweredIn, freedSlots, cornersIn, List.filter_filter]
  congr 1
  refine List.filter_congr fun c _ => ?_
  cases hlow : boostLowered targets s c with
  | false => rfl
  | true => simp [classify_direct.mpr (.inr (boostLowered_boost hlow))]

theorem lowered_direct (hlow : boostLowered targets s c = true) : c ∈ cornersIn s targets .direct :=
  (mem_cornersIn s targets .direct c).mpr (classify_direct.mpr (.inr (boostLowered_boost hlow)))

theorem ranked_requests :
    rank (updateStep s targets) (cornersIn s targets .request) = rankedRequests targets s := by
  have hrequests : cornersIn s targets .request = corners.filter (asksForBoost targets s) := by
    rw [cornersIn]
    refine List.filter_congr fun c _ => ?_
    cases hasks : asksForBoost targets s c with
    | true => simp [classify_request.mpr hasks]
    | false =>
      have hnot : classify s c (targets.get c) ≠ .request := fun h => by
        rw [classify_request.mp h] at hasks
        cases hasks
      simp [hnot]
  rw [hrequests]
  rfl

theorem mem_rankedRequests {c : Corner} : c ∈ rankedRequests targets s ↔ asksForBoost targets s c = true := by
  rw [rankedRequests, (rank_perm _ _).mem_iff]
  simp [mem_corners]

theorem rankedRequests_nodup : (rankedRequests targets s).Nodup :=
  (rank_perm _ _).nodup_iff.mpr (corners_nodup.filter _)

theorem asksForBoost_hold {c : Corner} (h : asksForBoost targets s c = true) : (s.corner c).state = .hold :=
  of_decide_eq_true (Bool.and_eq_true _ _ ▸ h).1

/-- What the three rounds make of the lists and of each corner. -/
structure Delivered (targets : PerCorner Nat) (s t : State) : Prop where
  underWay : UnderWay s t
  slots : t.drive.slots = slotsBeforeRequests targets s ++ grantedRequests targets s
  waiting : t.drive.waiting = (keptWaiting targets s).drop (freedSlots targets s) ++ leftRequests targets s
  requestGranted : ∀ c ∈ grantedRequests targets s, t.both c = boosted targets s c (s.monitorOf c)
  requestLeft : ∀ c ∈ leftRequests targets s, t.both c = waits targets s c
  direct : ∀ c, classify s c (targets.get c) = .direct → t.both c = secondRound targets s c
  waiterGranted : ∀ c ∈ (keptWaiting targets s).take (freedSlots targets s),
    t.both c = boosted targets s c (unsettled targets s c)
  waiter : ∀ c, classify s c (targets.get c) = .waitUpdate →
    c ∉ (keptWaiting targets s).take (freedSlots targets s) → t.both c = firstRound targets s c
  discarded : ∀ c, classify s c (targets.get c) = .discarded → t.both c = s.both c

theorem delivered (hnone : NoTest s) (hlaws : ArbiterLaws s) : Delivered targets s (deliverTogether targets s) := by
  obtain ⟨hlists, -⟩ := (arbiterLaws_iff s).mp hlaws
  obtain ⟨hfirst, hwaiting⟩ := firstRound_of_classes (targets := targets) hlists hnone
  have hsecond := secondRound_all hfirst hwaiting hlists hnone (cs := cornersIn s targets .direct) (corners_nodup.filter _)
    fun c hc => (mem_cornersIn s targets .direct c).mp hc
  have hclasses {k k' : UpdateClass} (hne : k ≠ k') {c : Corner} (hc : classify s c (targets.get c) = k) :
      c ∉ cornersIn s targets k' := fun hmem => hne (hc.symm.trans ((mem_cornersIn s targets k' c).mp hmem))
  have hkept {k : UpdateClass} (hne : k ≠ .waitUpdate) {c : Corner} (hc : classify s c (targets.get c) = k) (n : Nat) :
      c ∉ (keptWaiting targets s).take n := fun hmem =>
    hne (hc.symm.trans (classify_wait.mpr (mem_keptWaiting (List.mem_of_mem_take hmem))))
  have huntouched {k : UpdateClass} (hwait : k ≠ .waitUpdate) (hdirect : k ≠ .direct) {c : Corner}
      (hc : classify s c (targets.get c) = k) := (hsecond.others c (hclasses hdirect hc) (hkept hwait hc _)).trans
        (hfirst.others c (hclasses hwait hc))
  have hthird := thirdRound_all (targets := targets) (cs := rankedRequests targets s) hsecond.underWay hnone
    rankedRequests_nodup fun c hc =>
      huntouched (by decide) (by decide) (classify_request.mpr (mem_rankedRequests.mp hc))
  have hdelivers : deliverTogether targets s = (rankedRequests targets s).foldl
      (fun s' c => requestBoost c (s.tables.active.clampCurrent c (targets.get c)) s')
      ((cornersIn s targets .direct).foldl (fun s' c => updateTarget c (targets.get c) s')
        ((cornersIn s targets .waitUpdate).foldl (fun s' c => updateTarget c (targets.get c) s') s)) := by
    rw [← ranked_requests]
    rfl
  rw [← hdelivers] at hthird
  have hslots := hsecond.slots
  have hlist := hsecond.waiting
  have hgranted := hsecond.granted
  have hothers := hsecond.others
  rw [loweredIn_direct] at hslots hlist hgranted hothers
  have hbefore : ((cornersIn s targets .direct).foldl (fun s' c => updateTarget c (targets.get c) s')
      ((cornersIn s targets .waitUpdate).foldl (fun s' c => updateTarget c (targets.get c) s') s)).drive.slots =
      slotsBeforeRequests targets s := by
    rw [hslots, slotsBeforeRequests]
    congr 1
    refine List.filter_congr fun c _ => ?_
    cases hlow : boostLowered targets s c with
    | false => simp
    | true => simp [lowered_direct hlow]
  have hrequest {k : UpdateClass} (hne : k ≠ .request) {c : Corner} (hc : classify s c (targets.get c) = k) :
      c ∉ rankedRequests targets s := fun hmem =>
    hne (hc.symm.trans (classify_request.mpr (mem_rankedRequests.mp hmem)))
  obtain ⟨hunder, hslots3, hwaiting3, hgranted3, hleft3, hothers3⟩ := hthird
  rw [hbefore] at hslots3 hwaiting3 hgranted3 hleft3
  refine ⟨hunder, hslots3, ?_, hgranted3, hleft3, fun c hc => ?_, fun c hc => ?_, fun c hc hnot => ?_, fun c hc => ?_⟩
  · rw [hwaiting3, hlist]
    rfl
  · rw [hothers3 c (hrequest (by decide) hc), hsecond.updated c ((mem_cornersIn s targets .direct c).mpr hc)]
  · have hwait : classify s c (targets.get c) = .waitUpdate :=
      classify_wait.mpr (mem_keptWaiting (List.mem_of_mem_take hc))
    rw [hothers3 c (hrequest (by decide) hwait), hgranted c hc]
  · rw [hothers3 c (hrequest (by decide) hc), hothers c (hclasses (by decide) hc) hnot,
      hfirst.updated c ((mem_cornersIn s targets .waitUpdate c).mpr hc)]
  · rw [hothers3 c (hrequest (by decide) hc)]
    exact huntouched (by decide) (by decide) hc

theorem driveState_cases (d : DriveState) :
    (d.isHeld = true ↔ d = .hold ∨ ∃ base, d = .wait base) ∧ (d.isOff = true ↔ d = .off ∨ d = .fault) ∧
      (d.isDriven = true ↔ d = .hold ∨ (∃ base, d = .wait base) ∨ ∃ timeout, d = .boost timeout) := by
  cases d <;> simp [DriveState.isHeld, DriveState.isOff, DriveState.isDriven]

end

/-- Settles O28: the ranking, and the three rounds of the delivery read at each corner. -/
theorem togetherDeliveryGrantsDownTheRanking : Obligations.TogetherDeliveryGrantsDownTheRanking := by
  refine ⟨fun step cs => ?_, fun targets s hnone hlaws => ?_, driveState_cases⟩
  · obtain ⟨hsorted, hfilter⟩ := rank_sorted_filter step cs [] .nil
    exact ⟨rank_perm step cs, hsorted, fun v => hfilter v⟩
  · intro i held freed kept t unsettled
    have h : Delivered targets s t := delivered hnone hlaws
    obtain ⟨honly, -⟩ := h.underWay.quiet.onlyDrive (t := deliverTogether targets s)
    have hread {c : Corner} {x : DriveRecord × MonitorRecord} (hboth : t.both c = x) :
        t.corner c = x.1 ∧ t.monitorOf c = x.2 := by
      rw [← hboth]
      exact ⟨rfl, rfl⟩
    refine ⟨h.slots, h.waiting, honly, h.underWay.quiet.mgmt, ?_, fun c => ⟨fun hoff => ?_, fun base hwait => ?_,
      fun timeout hboost => ?_, fun hhold => ⟨fun hlow => ?_, fun hgranted => ?_, fun hleft => ?_⟩⟩⟩
    · simp [t]
    · exact hread (h.discarded c (by rcases hoff with hoff | hoff <;> simp [classify, hoff]))
    · have hclass : classify s c (targets.get c) = .waitUpdate := classify_wait.mpr ⟨base, hwait⟩
      refine ⟨fun hfalls => ?_, fun htaken => hread (h.waiterGranted c htaken), fun hstays => ?_⟩
      · have hnot : c ∉ (keptWaiting targets s).take (freedSlots targets s) := fun hmem => by
          have hstands : requestStands targets s c = true := List.of_mem_filter (List.mem_of_mem_take hmem)
          rw [hfalls] at hstands
          cases hstands
        have hboth := h.waiter c hclass hnot
        rw [firstRound, hfalls] at hboth
        exact hread hboth
      · have hmem : c ∈ keptWaiting targets s := List.mem_of_mem_drop hstays
        have hnodup : (keptWaiting targets s).Nodup := by
          obtain ⟨-, -, -, hwaiting, -⟩ := hlaws
          exact hwaiting.filter _
        have hnot : c ∉ (keptWaiting targets s).take (freedSlots targets s) := fun htaken => by
          rw [← List.take_append_drop (freedSlots targets s) (keptWaiting targets s)] at hnodup
          exact (List.nodup_append.mp hnodup).2.2 c htaken c hstays rfl
        have hboth := h.waiter c hclass hnot
        rw [firstRound, if_pos (List.of_mem_filter hmem)] at hboth
        exact hread hboth
    · have hboth := h.direct c (classify_direct.mpr (.inr ⟨timeout, hboost⟩))
      rw [secondRound_of_boost hboost] at hboth
      refine ⟨fun hkeeps => ?_, fun hlow => ?_⟩
      · rw [hkeeps] at hboth
        exact hread hboth
      · rw [hlow] at hboth
        exact hread hboth
    · have hboth := h.direct c (classify_direct.mpr (.inl ⟨hhold, hlow⟩))
      rw [secondRound_of_hold hhold] at hboth
      exact hread hboth
    · exact hread (h.requestGranted c hgranted)
    · exact hread (h.requestLeft c hleft)

end Sys2Proof.Machine

/-! A monitor test that runs while the drive changes (R116, R130, R138): the operations that abort it, and those that leave it
running. -/

namespace Sys2Proof.Machine

/-! ### The abort's answer (R138) -/

/-- A test runs at this corner and at no other, its request in execution. -/
structure TestAt (s : State) (c : Corner) (x : MonitorTest) (r : Request) : Prop where
  test : (s.monitorOf c).test = some x
  alone : ∀ d, d ≠ c → (s.monitorOf d).test = none
  executing : s.mgmt.executing = some r

/-- The test that ran in `s` has been aborted and answered, and nothing else has been answered since. -/
structure AbortedSince (s u : State) (x : MonitorTest) (r : Request) : Prop where
  link : u.link = (abortAnswered s x r).link
  mgmt : u.mgmt = (abortAnswered s x r).mgmt
  noTest : NoTest u

section
variable {s u v : State} {c d : Corner} {x : MonitorTest} {r : Request} {i : Nat}

theorem abortAnswered_of (hlink : u.link = s.link) (hmgmt : u.mgmt = s.mgmt) :
    (abortAnswered u x r).link = (abortAnswered s x r).link ∧ (abortAnswered u x r).mgmt = (abortAnswered s x r).mgmt :=
  ⟨answer_link_of r .aborted [natWord x.judged] hlink,
    answer_mgmt_of r .aborted [natWord x.judged] hlink (by rw [hmgmt])⟩

theorem TestAt.of_requests (h : TestAt s c x r) (g : SameRequests s u) : TestAt u c x r :=
  ⟨(g.test c).trans h.test, fun d hd => (g.test d).trans (h.alone d hd), by rw [g.mgmt, h.executing]⟩

theorem AbortedSince.of_requests (h : AbortedSince s u x r) (g : SameRequests u v) : AbortedSince s v x r :=
  ⟨g.link.trans h.link, g.mgmt.trans h.mgmt, g.noTest h.noTest⟩

theorem AbortedSince.of_base (h : AbortedSince u v x r) (hlink : u.link = s.link) (hmgmt : u.mgmt = s.mgmt) :
    AbortedSince s v x r := by
  obtain ⟨hended, hended'⟩ := abortAnswered_of (x := x) (r := r) hlink hmgmt
  exact ⟨h.link.trans hended, h.mgmt.trans hended', h.noTest⟩

theorem abortTest_answers (h : TestAt s c x r) :
    (abortTest c s).link = (abortAnswered s x r).link ∧ (abortTest c s).mgmt = (abortAnswered s x r).mgmt := by
  have hends : abortTest c s = endExecuting .aborted [natWord x.judged]
      (s.setMonitor c { s.monitorOf c with test := none, deviation := 0 }) := by
    simp only [abortTest, h.test]
  have hanswered := hends.trans (endExecuting_some
    (s := s.setMonitor c { s.monitorOf c with test := none, deviation := 0 }) (r := r) _ _ h.executing)
  rw [hanswered]
  exact ⟨answer_link_of _ _ _ rfl, answer_mgmt_of _ _ _ rfl rfl⟩

/-! ### The changes of state that abort the test -/

theorem toBoost_aborts (h : TestAt s c x r) : AbortedSince s (toBoost c i s) x r := by
  have hentered : TestAt ((enter c (.boost s.tables.active.boostTimeout) i s).setSlots (s.drive.slots ++ [c])) c x r :=
    ⟨h.test, h.alone, h.executing⟩
  obtain ⟨hlink, hmgmt⟩ := abortTest_answers hentered
  obtain ⟨hended, hended'⟩ := abortAnswered_of (x := x) (r := r) (s := s)
    (u := (enter c (.boost s.tables.active.boostTimeout) i s).setSlots (s.drive.slots ++ [c])) rfl rfl
  refine ⟨hlink.trans hended, hmgmt.trans hended', fun d => ?_⟩
  rw [test_toBoost]
  split
  · rfl
  · next hd => exact h.alone d hd

theorem toWait_aborts (h : TestAt s c x r) : AbortedSince s (toWait c i s) x r := by
  have hentered : TestAt ((enter c (.wait (s.corner c).target) i s).setWaiting (s.drive.waiting ++ [c])) c x r :=
    ⟨h.test, h.alone, h.executing⟩
  obtain ⟨hlink, hmgmt⟩ := abortTest_answers hentered
  obtain ⟨hended, hended'⟩ := abortAnswered_of (x := x) (r := r) (s := s)
    (u := (enter c (.wait (s.corner c).target) i s).setWaiting (s.drive.waiting ++ [c])) rfl rfl
  refine ⟨hlink.trans hended, hmgmt.trans hended', fun d => ?_⟩
  rw [test_toWait]
  split
  · rfl
  · next hd => exact h.alone d hd

theorem toOff_aborts (h : TestAt s c x r) : AbortedSince s (toOff c s) x r := by
  have hentered : TestAt (enter c .off (s.corner c).target s) c x r := ⟨h.test, h.alone, h.executing⟩
  obtain ⟨hlink, hmgmt⟩ := abortTest_answers hentered
  obtain ⟨hended, hended'⟩ := abortAnswered_of (x := x) (r := r) (s := s) (u := enter c .off (s.corner c).target s) rfl rfl
  refine ⟨hlink.trans hended, hmgmt.trans hended', fun d => ?_⟩
  rw [test_toOff]
  split
  · rfl
  · next hd => exact h.alone d hd

/-! ### The gate closes on a running test -/

theorem sameRequests_toOff (hnone : (s.monitorOf c).test = none) : SameRequests s (toOff c s) := by
  have hquiet : toOff c s = startSettling c (enter c .off (s.corner c).target s) :=
    congrArg (startSettling c) (abortTest_none (c := c) (s := enter c .off (s.corner c).target s) hnone)
  rw [hquiet]
  exact SameRequests.trans (t := enter c .off (s.corner c).target s) ⟨rfl, rfl, fun _ => rfl⟩
    (sameRequests_startSettling c _)

/-- A corner goes to OFF where it is driven; with no test at it no request ends. -/
theorem sameRequests_drivenOff (d : Corner) (hnone : (s.monitorOf d).test = none) :
    SameRequests s (if (s.corner d).state.isDriven then toOff d s else s) := by
  split
  · exact sameRequests_toOff hnone
  · exact .refl s

theorem sameRequests_drivenOff_foldl (ds : List Corner) (hnone : NoTest s) :
    SameRequests s (ds.foldl (fun s' d => if (s'.corner d).state.isDriven then toOff d s' else s') s) :=
  SameRequests.foldl (f := fun s' d => if (s'.corner d).state.isDriven then toOff d s' else s')
    (fun _ d hquiet => sameRequests_drivenOff d (hquiet d)) ds hnone

/-- The corners that go to OFF one after the other abort the test when its own corner comes. -/
theorem foldl_toOff_aborts {cs : List Corner} (h : TestAt s c x r) (hdriven : (s.corner c).state.isDriven = true)
    (hmem : c ∈ cs) :
    AbortedSince s (cs.foldl (fun s' d => if (s'.corner d).state.isDriven then toOff d s' else s') s) x r := by
  induction cs generalizing s with
  | nil => exact absurd hmem List.not_mem_nil
  | cons d ds ih =>
    rw [List.foldl_cons]
    by_cases hd : d = c
    · subst hd
      rw [if_pos hdriven]
      have haborted : AbortedSince s (toOff d s) x r := toOff_aborts h
      exact haborted.of_requests (sameRequests_drivenOff_foldl ds haborted.noTest)
    · have hquiet := sameRequests_drivenOff d (h.alone d hd)
      have hstill : ((if (s.corner d).state.isDriven then toOff d s else s).corner c).state.isDriven = true := by
        split
        · rw [corner_toOff, if_neg (Ne.symm hd)]
          exact hdriven
        · exact hdriven
      have hrest := ih (h.of_requests hquiet) hstill ((List.mem_cons.mp hmem).resolve_left (Ne.symm hd))
      exact hrest.of_base hquiet.link hquiet.mgmt

theorem closeGate_aborts (cause : CloseCause) (h : TestAt s c x r) (hdriven : (s.corner c).state.isDriven = true)
    (hopen : s.gate.isOpen = true) : AbortedSince s (closeGate cause s) x r := by
  have hoff := foldl_toOff_aborts (s := { s with gate := { isOpen := false, cause := cause } }) (cs := corners)
    ⟨h.test, h.alone, h.executing⟩ hdriven (mem_corners c)
  have hclosed : closeGate cause s = cancelStaggered (((allDrivenOff
      { s with gate := { isOpen := false, cause := cause } }).setSlots []).setWaiting []) := if_pos hopen
  rw [hclosed]
  have haborted : AbortedSince s (allDrivenOff { s with gate := { isOpen := false, cause := cause } }) x r :=
    hoff.of_base rfl rfl
  have hcancelled (u : State) : SameRequests u (cancelStaggered ((u.setSlots []).setWaiting [])) :=
    ⟨rfl, rfl, fun _ => rfl⟩
  exact haborted.of_requests (hcancelled _)

/-! ### Operations at other corners -/

/-- An operation at other corners has left this corner and its test, and has not put it on the pending list. -/
structure Away (c : Corner) (u v : State) : Prop where
  requests : SameRequests u v
  corner : v.corner c = u.corner c
  monitor : v.monitorOf c = u.monitorOf c
  waiting : c ∉ u.drive.waiting → c ∉ v.drive.waiting
  tables : v.tables = u.tables

theorem Away.refl (c : Corner) (u : State) : Away c u u := ⟨.refl u, rfl, rfl, id, rfl⟩

theorem Away.trans {w : State} (h : Away c u v) (g : Away c v w) : Away c u w :=
  ⟨h.requests.trans g.requests, g.corner.trans h.corner, g.monitor.trans h.monitor, fun hc => g.waiting (h.waiting hc),
    g.tables.trans h.tables⟩

theorem away_toHold (hd : d ≠ c) (i : Nat) (u : State) : Away c u (toHold d i u) :=
  ⟨sameRequests_toHold d i u, by rw [corner_toHold, if_neg (Ne.symm hd)], by rw [monitorOf_toHold, if_neg (Ne.symm hd)],
    by simp, by simp⟩

theorem away_retarget (hd : d ≠ c) (i : Nat) (u : State) : Away c u (retarget d i u) :=
  ⟨sameRequests_retarget d i u, by rw [corner_retarget, if_neg (Ne.symm hd)],
    by rw [monitorOf_retarget, if_neg fun h => hd h.1.symm], by simp, by simp⟩

theorem away_toBoost (hd : d ≠ c) (i : Nat) (hnone : (u.monitorOf d).test = none) : Away c u (toBoost d i u) :=
  ⟨sameRequests_toBoost i hnone, by rw [corner_toBoost, if_neg (Ne.symm hd)],
    by rw [monitorOf_toBoost, if_neg fun h => hd h.1.symm], by simp, by simp⟩

theorem away_toWait (hd : d ≠ c) (i : Nat) (hnone : (u.monitorOf d).test = none) : Away c u (toWait d i u) :=
  ⟨sameRequests_toWait i hnone, by rw [corner_toWait, if_neg (Ne.symm hd)], by rw [monitorOf_toWait, if_neg (Ne.symm hd)],
    fun hc => by simp [hc, Ne.symm hd], by simp⟩

theorem away_requestBoost (hd : d ≠ c) (i : Nat) (hnone : (u.monitorOf d).test = none) : Away c u (requestBoost d i u) := by
  unfold requestBoost
  split
  · exact away_toBoost hd i hnone
  · exact away_toWait hd i hnone

theorem away_setWaiting {l : List Corner} (hsub : c ∉ u.drive.waiting → c ∉ l) (u' : State) (hu : u' = u.setWaiting l) :
    Away c u u' := by
  rw [hu]
  exact ⟨⟨rfl, rfl, fun _ => rfl⟩, rfl, rfl, hsub, rfl⟩

/-- An operation at another corner has left this one alone, or has passed on a slot to it at the target it holds. -/
def Reached (c : Corner) (u v : State) : Prop :=
  Away c u v ∨ (c ∈ u.drive.waiting ∧ ∃ w, Away c u w ∧ v = toBoost c (w.corner c).target w)

theorem Reached.of_away {w : State} (h : Away c u v) (g : Reached c v w) : Reached c u w := by
  rcases g with g | ⟨hmem, w', g, hw⟩
  · exact .inl (h.trans g)
  · exact .inr ⟨by_contra fun hc => h.waiting hc hmem, w', h.trans g, hw⟩

theorem reached_grantHead (halone : ∀ d, d ≠ c → (u.monitorOf d).test = none) : Reached c u (grantHead u) := by
  unfold grantHead
  split
  · exact .inl (.refl c u)
  · next e rest hwaiting =>
    split
    · have hset : Away c u (u.setWaiting rest) :=
        away_setWaiting (fun hc hmem => hc (by simp [hwaiting, hmem])) _ rfl
      by_cases he : e = c
      · subst he
        exact .inr ⟨by simp [hwaiting], u.setWaiting rest, hset, rfl⟩
      · exact .inl (hset.trans (away_toBoost (u := u.setWaiting rest) he _ (halone e he)))
    · exact .inl (.refl c u)

theorem reached_updateTarget (hd : d ≠ c) (i : Nat) (halone : ∀ d, d ≠ c → (u.monitorOf d).test = none) :
    Reached c u (updateTarget d i u) := by
  unfold updateTarget
  dsimp only
  split
  case h_1 | h_2 => exact .inl (.refl c u)
  case h_3 =>
    split
    · exact .inl (away_requestBoost hd _ (halone d hd))
    · exact .inl (away_retarget hd _ u)
  case h_4 =>
    split
    · exact .inl (away_retarget hd _ u)
    · have herased : Away c u (u.setWaiting (u.drive.waiting.erase d)) :=
        away_setWaiting (fun hc hmem => hc (List.mem_of_mem_erase hmem)) _ rfl
      exact .inl (herased.trans (away_toHold hd _ _))
  case h_5 timeout _ =>
    split
    · refine .inl ⟨⟨rfl, rfl, fun _ => rfl⟩, ?_, rfl, id, rfl⟩
      rw [corner_enter, if_neg (Ne.symm hd)]
    · have hheld := away_toHold hd (u.tables.active.clampCurrent d i) u
      have hfreed : Away c u ((toHold d (u.tables.active.clampCurrent d i) u).setSlots
          ((toHold d (u.tables.active.clampCurrent d i) u).drive.slots.erase d)) :=
        hheld.trans ⟨⟨rfl, rfl, fun _ => rfl⟩, rfl, rfl, id, rfl⟩
      exact .of_away hfreed (reached_grantHead fun e he => (hheld.requests.test e).trans (halone e he))

end

end Sys2Proof.Machine

/-! A monitor test and single events (R130, R137, R138): an update of its corner, a measurement, and the closing of the
gate. -/

namespace Sys2Proof.Machine

/-! ### Its corner under an update (R112, R116) -/

/-- The corner has gone to BOOST, its test and its deviation count gone, its other monitor items kept (log entry 9). -/
def BoostedFrom (c : Corner) (s t : State) : Prop :=
  (t.corner c).state = .boost s.tables.active.boostTimeout ∧
    t.monitorOf c = { s.monitorOf c with deviation := 0, test := none }

/-- The corner waits for a slot, the target that it held its base, and settles. -/
def WaitsFrom (c : Corner) (s t : State) : Prop :=
  (t.corner c).state = .wait (s.corner c).target ∧ t.monitorOf c = settling s

/-- The corner is held at `i` with its test going on; where that is a change of its target, settling has started (R130). -/
def TestGoesOn (c : Corner) (x : MonitorTest) (i : Nat) (s t : State) : Prop :=
  (t.corner c).state = .hold ∧ (t.corner c).target = i ∧
    t.monitorOf c = if i = (s.corner c).target then s.monitorOf c else { settling s with test := some x }

section
variable {s : State} {c : Corner} {x : MonitorTest} {r : Request} {i : Nat}

theorem testAt_of_runs (h : TestRunsAt s c x r) : TestAt s c x r := by
  obtain ⟨-, htest, halone, hexecuting⟩ := h
  exact ⟨htest, halone, hexecuting⟩

theorem boostedFrom_toBoost (htest : (s.monitorOf c).test = some x) : BoostedFrom c s (toBoost c i s) := by
  constructor
  · rw [corner_toBoost, if_pos rfl]
  · rw [monitorOf_toBoost, htest, if_pos ⟨rfl, rfl⟩]

theorem waitsFrom_toWait : WaitsFrom c s (toWait c i s) := by
  constructor
  · rw [corner_toWait, if_pos rfl]
  · rw [monitorOf_toWait, if_pos rfl]
    rfl

theorem testGoesOn_retarget (hhold : (s.corner c).state = .hold) (htest : (s.monitorOf c).test = some x) :
    TestGoesOn c x i s (retarget c i s) := by
  refine ⟨?_, ?_, ?_⟩
  · rw [corner_retarget, if_pos rfl, hhold]
  · rw [corner_retarget, if_pos rfl]
  · rw [monitorOf_retarget]
    by_cases hi : i = (s.corner c).target
    · rw [if_neg fun h => h.2 hi, if_pos hi]
    · rw [if_pos ⟨rfl, hi⟩, if_neg hi]
      simp [settling, htest]

/-- A request for a slot ends the test, at once granted or not (R116). -/
theorem requestBoost_aborts (h : TestAt s c x r) :
    AbortedSince s (requestBoost c i s) x r ∧ (s.drive.slots.length < 2 → BoostedFrom c s (requestBoost c i s)) ∧
      (2 ≤ s.drive.slots.length → WaitsFrom c s (requestBoost c i s)) := by
  rcases Nat.lt_or_ge s.drive.slots.length 2 with hfree | hfull
  · rw [requestBoost_of_free hfree]
    exact ⟨toBoost_aborts h, fun _ => boostedFrom_toBoost h.test, fun hfull => absurd hfree (Nat.not_lt.mpr hfull)⟩
  · rw [requestBoost_of_full hfull]
    exact ⟨toWait_aborts h, fun hfree => absurd hfree (Nat.not_lt.mpr hfull), fun _ => waitsFrom_toWait⟩

/-- What a target update of the tested corner does, below the boost step and from it on. -/
theorem updateTarget_under_test (h : TestAt s c x r) (hhold : (s.corner c).state = .hold) (v : Nat) :
    ((s.tables.active.clampCurrent c v : Int) - (s.corner c).target < s.tables.active.boostStep →
      TestGoesOn c x (s.tables.active.clampCurrent c v) s (updateTarget c v s) ∧ SameRequests s (updateTarget c v s)) ∧
    ((s.tables.active.boostStep : Int) ≤ (s.tables.active.clampCurrent c v : Int) - (s.corner c).target →
      AbortedSince s (updateTarget c v s) x r ∧ (s.drive.slots.length < 2 → BoostedFrom c s (updateTarget c v s)) ∧
        (2 ≤ s.drive.slots.length → WaitsFrom c s (updateTarget c v s))) := by
  rw [updateTarget_of_hold v hhold]
  refine ⟨fun hlow => ?_, fun hhigh => ?_⟩
  · rw [if_neg (Int.not_le.mpr hlow)]
    exact ⟨testGoesOn_retarget hhold h.test, sameRequests_retarget c _ s⟩
  · rw [if_pos hhigh]
    exact requestBoost_aborts h

theorem staggeredUpdate_under_test (hrun : s.resetInProgress = false) (h : TestRunsAt s c x r) {u : Staggered}
    (hu : s.drive.staggered.get c = some u) :
    ∃ t, exec (.staggeredUpdate c) s = .next t ∧
      ((s.tables.active.clampCurrent c u.target : Int) - (s.corner c).target < s.tables.active.boostStep →
        TestGoesOn c x (s.tables.active.clampCurrent c u.target) s t ∧ SameRequests s t) ∧
      ((s.tables.active.boostStep : Int) ≤ (s.tables.active.clampCurrent c u.target : Int) - (s.corner c).target →
        AbortedSince s t x r ∧ (s.drive.slots.length < 2 → BoostedFrom c s t) ∧
          (2 ≤ s.drive.slots.length → WaitsFrom c s t)) := by
  refine ⟨_, exec_staggeredUpdate hrun hu, ?_⟩
  have htest : TestAt (s.setStaggered (s.drive.staggered.set c none)) c x r :=
    ⟨(testAt_of_runs h).test, (testAt_of_runs h).alone, (testAt_of_runs h).executing⟩
  have hhold : ((s.setStaggered (s.drive.staggered.set c none)).corner c).state = .hold := h.1
  obtain ⟨hlow, hhigh⟩ := updateTarget_under_test htest hhold u.target
  refine ⟨fun hstep => ?_, fun hstep => ?_⟩
  · obtain ⟨hgoes, hlink, hmgmt, hkeeps⟩ := hlow hstep
    exact ⟨hgoes, hlink, hmgmt, hkeeps⟩
  · obtain ⟨haborted, heffect⟩ := hhigh hstep
    exact ⟨haborted.of_base rfl rfl, heffect⟩

/-! ### A measurement while its corner settles (R130) -/

theorem periodOver_keeps (c d : Corner) (s : State) :
    ((periodOver c s).corner d).state = (s.corner d).state ∧ (periodOver c s).monitor = s.monitor ∧
      (periodOver c s).mgmt = s.mgmt ∧ (periodOver c s).link = s.link := by
  rw [← endPeriod_eq]
  exact ⟨state_endPeriod c d s, by simp, by simp, by simp⟩

/-- A measurement of the tested corner while it settles only counts the settling down. -/
theorem measurement_while_settling (hrun : s.resetInProgress = false) (hhold : (s.corner c).state = .hold)
    (hvalid : s.tables.activeValid = true) (hsettling : 0 < (s.monitorOf c).settle) (average : Nat) :
    ∃ t, exec (.currentMeasurement c average) s = .next t ∧ (t.corner c).state = .hold ∧
      t.monitorOf c = { s.monitorOf c with settle := (s.monitorOf c).settle - 1 } ∧ t.mgmt = s.mgmt ∧ t.link = s.link := by
  refine ⟨_, exec_measurement_judged average hrun (not_boost_of_held (by rw [hhold]; rfl)), ?_⟩
  obtain ⟨hstate, hmonitor, hmgmt, htables, hlink, -⟩ := periodRunning_keeps c s
  have hitems : (keepMeasurement c (min 2500 average) (periodRunning c s)).monitorOf c = s.monitorOf c :=
    monitorOf_of_monitor hmonitor c
  have hjudged := judge_of_settling (s := keepMeasurement c (min 2500 average) (periodRunning c s)) (c := c)
    (m := min 2500 average) (by simpa [htables] using hvalid) (by rw [hitems]; exact hsettling)
  rw [hjudged, hitems]
  obtain ⟨hstate', hmonitor', hmgmt', hlink'⟩ := periodOver_keeps c c
    ((keepMeasurement c (min 2500 average) (periodRunning c s)).setMonitor c
      { s.monitorOf c with settle := (s.monitorOf c).settle - 1 })
  refine ⟨?_, ?_, hmgmt'.trans hmgmt, hlink'.trans hlink⟩
  · rw [hstate', corner_setMonitor, state_keepMeasurement, hstate, hhold]
  · rw [monitorOf_of_monitor hmonitor', monitorOf_setMonitor, if_pos rfl]

/-! ### The gate closes on it (R126, R138) -/

/-- The state that is left once the test has been aborted by a closing of the gate. -/
structure ClosedUnderTest (s t : State) (x : MonitorTest) (r : Request) : Prop where
  drives : DrivesSwitchedOff s t
  link : t.link = (abortAnswered s x r).link
  mgmt : { t.mgmt with flags := s.mgmt.flags } = { s.mgmt with executing := none }

/-- The gate closes after steps that have left the drives, the tables, the link and, but for the flags, Management. -/
theorem closeGate_under_test {b : State} (cause : CloseCause) (h : TestRunsAt s c x r) (hopen : s.gate.isOpen = true)
    (hdrive : b.drive = s.drive) (hmonitor : b.monitor = s.monitor) (htables : b.tables = s.tables)
    (hgate : b.gate = s.gate) (hlink : b.link = s.link) (hexecuting : b.mgmt.executing = s.mgmt.executing)
    (hqueue : b.mgmt.queue = s.mgmt.queue) (hcaptures : b.mgmt.captures = s.mgmt.captures) :
    ClosedUnderTest s (closeGate cause b) x r := by
  obtain ⟨hhold, htest, halone, hrunning⟩ := h
  have hitems := monitorOf_of_monitor hmonitor
  have hopen' : b.gate.isOpen = true := by rw [hgate, hopen]
  have hat : TestAt b c x r :=
    ⟨by rw [hitems, htest], fun d hd => by rw [hitems, halone d hd], hexecuting.trans hrunning⟩
  have haborted := closeGate_aborts cause hat (by rw [corner_of_drive hdrive, hhold]; rfl) hopen'
  refine ⟨(closeGate_drivesSwitchedOff cause hopen').of_agree hdrive hmonitor htables,
    haborted.link.trans (answer_link_of r .aborted [natWord x.judged] hlink), ?_⟩
  rw [haborted.mgmt]
  exact Mgmt.flags_only s.mgmt.flags (n := { s.mgmt with executing := none }) (by simp [abortAnswered])
    (by simpa [abortAnswered] using hqueue) (by simpa [abortAnswered] using hcaptures)

theorem supplyCut_under_test {v : Nat} (hrun : s.resetInProgress = false) (h : TestRunsAt s c x r) (hv : v ≤ 20000)
    (hvalid : s.tables.activeValid = true) (hcut : v < s.tables.active.vCut) (hopen : s.gate.isOpen = true) :
    ∃ t, exec (.supplyMeasurement v) s = .next t ∧ ClosedUnderTest s t x r := by
  refine ⟨_, exec_supplyMeasurement hrun hv, ?_⟩
  rw [actOnSample_cut (s := keepSample v s) hvalid hcut]
  exact closeGate_under_test .supplyCut h hopen (by simp [keepSample]) (by simp [keepSample]) (by simp [keepSample])
    (by simp [keepSample]) (by simp [keepSample]) (by simp [keepSample]) (by simp [keepSample]) (by simp [keepSample])

theorem silence_under_test {src : Source} {timeout : Nat} (first : Bool) (hrun : s.resetInProgress = false)
    (h : TestRunsAt s c x r) (halive : s.timing.sources.get src = .alive timeout) (hinv : SelectionInv s)
    (hopen : s.gate.isOpen = true) (ha : src = .a → s.timing.sources.b = .silent)
    (hb : src = .b → s.timing.sources.a = .silent) (hcommit : s.tables.commitPending = false)
    (hprogramme : s.engine.pendingProgramme = none) :
    ∃ t, exec (.silenceTimerExpiry src first) s = .next t ∧ ClosedUnderTest s t x r := by
  refine ⟨_, exec_silenceTimerExpiry_alive hrun halive, ?_⟩
  rw [reevaluate_of_last_expired hinv halive ha hb, completeCommit_of_none (s := unselected s) hcommit,
    completeCommit_of_none (s := closeForSilence (unselected s)) (by simpa [unselected] using hcommit), ite_self,
    applyProgramme_of_none (by simpa [unselected] using hprogramme)]
  have hclosed : ClosedUnderTest s (closeGate .marksSilent (unselected s)) x r :=
    closeGate_under_test .marksSilent h hopen rfl rfl rfl rfl rfl rfl rfl rfl
  refine ⟨hclosed.drives.after (by simp [closeForSilence]) (by simp [closeForSilence]), ?_, ?_⟩
  · rw [closeForSilence, setFlag_link]
    exact hclosed.link
  · exact hclosed.mgmt

end

end Sys2Proof.Machine

/-! A TOGETHER delivery in which a monitor test runs (R118, R138): its corner's part in the three rounds. -/

namespace Sys2Proof.Machine

/-! ### The updates of the other corners -/

section
variable {s t u v : State} {c d : Corner} {x : MonitorTest} {r : Request}

/-- The corner has not been updated yet: its target is the one held, and the test goes on or has ended at a slot passed on. -/
structure BeforeRequest (c : Corner) (s u : State) (x : MonitorTest) (r : Request) : Prop where
  tables : u.tables = s.tables
  target : (u.corner c).target = (s.corner c).target
  test : (SameRequests s u ∧ u.monitorOf c = s.monitorOf c) ∨
    (AbortedSince s u x r ∧ u.monitorOf c = { s.monitorOf c with deviation := 0, test := none })

theorem BeforeRequest.start (c : Corner) (s : State) (x : MonitorTest) (r : Request) : BeforeRequest c s s x r :=
  ⟨rfl, rfl, .inl ⟨.refl s, rfl⟩⟩

theorem BeforeRequest.alone (h : BeforeRequest c s u x r) (hat : TestAt s c x r) (d : Corner) (hd : d ≠ c) :
    (u.monitorOf d).test = none := by
  rcases h.test with ⟨hrequests, -⟩ | ⟨haborted, -⟩
  · exact (hrequests.test d).trans (hat.alone d hd)
  · exact haborted.noTest d

theorem BeforeRequest.away (h : BeforeRequest c s u x r) (g : Away c u v) : BeforeRequest c s v x r := by
  refine ⟨g.tables.trans h.tables, (congrArg DriveRecord.target g.corner).trans h.target, h.test.imp ?_ ?_⟩
  · exact fun ⟨hrequests, hmonitor⟩ => ⟨hrequests.trans g.requests, g.monitor.trans hmonitor⟩
  · exact fun ⟨haborted, hmonitor⟩ => ⟨haborted.of_requests g.requests, g.monitor.trans hmonitor⟩

/-- The corner takes a slot: the test ends where it still ran. -/
theorem BeforeRequest.toBoost (h : BeforeRequest c s u x r) (hat : TestAt s c x r) (i : Nat) :
    AbortedSince s (toBoost c i u) x r ∧ BoostedFrom c s (toBoost c i u) := by
  have hstate : ((Machine.toBoost c i u).corner c).state = .boost s.tables.active.boostTimeout := by
    rw [corner_toBoost, if_pos rfl, h.tables]
  rcases h.test with ⟨hrequests, hmonitor⟩ | ⟨haborted, hmonitor⟩
  · have hat' := hat.of_requests hrequests
    obtain ⟨-, hitems⟩ := boostedFrom_toBoost (i := i) hat'.test
    exact ⟨(toBoost_aborts hat').of_base hrequests.link hrequests.mgmt, hstate, by rw [hitems, hmonitor]⟩
  · have hnone := haborted.noTest c
    refine ⟨haborted.of_requests (sameRequests_toBoost i hnone), hstate, ?_⟩
    rw [monitorOf_toBoost, hnone, if_neg (fun hsome => nomatch hsome.2), hmonitor]

theorem BeforeRequest.toWait (h : BeforeRequest c s u x r) (hat : TestAt s c x r) (i : Nat) :
    AbortedSince s (toWait c i u) x r ∧ WaitsFrom c s (toWait c i u) := by
  obtain ⟨hstate, hitems⟩ := waitsFrom_toWait (s := u) (c := c) (i := i)
  refine ⟨?_, by rw [hstate, h.target], by rw [hitems, settling, h.tables, settling]⟩
  rcases h.test with ⟨hrequests, -⟩ | ⟨haborted, -⟩
  · exact (toWait_aborts (hat.of_requests hrequests)).of_base hrequests.link hrequests.mgmt
  · exact haborted.of_requests (sameRequests_toWait i (haborted.noTest c))

theorem BeforeRequest.reached (h : BeforeRequest c s u x r) (hat : TestAt s c x r) (g : Reached c u v) :
    BeforeRequest c s v x r := by
  rcases g with g | ⟨-, w, g, rfl⟩
  · exact h.away g
  · have hw := h.away g
    obtain ⟨haborted, -, hmonitor⟩ := hw.toBoost hat (w.corner c).target
    refine ⟨by simp [hw.tables], ?_, .inr ⟨haborted, hmonitor⟩⟩
    rw [corner_toBoost, if_pos rfl, hw.target]

theorem BeforeRequest.updates (h : BeforeRequest c s u x r) (hat : TestAt s c x r) (targets : PerCorner Nat) {cs : List Corner}
    (hc : c ∉ cs) : BeforeRequest c s (cs.foldl (fun s' d => updateTarget d (targets.get d) s') u) x r := by
  induction cs generalizing u with
  | nil => exact h
  | cons d ds ih =>
    obtain ⟨hd, hds⟩ := not_or.mp (fun hmem => hc (List.mem_cons.mpr hmem))
    exact ih (h.reached hat (reached_updateTarget (Ne.symm hd) _ (h.alone hat))) hds

/-- The updates of other corners leave a corner that is not on the pending list alone. -/
theorem away_updates (targets : PerCorner Nat) {cs : List Corner} (hc : c ∉ cs)
    (halone : ∀ d, d ≠ c → (u.monitorOf d).test = none) (hwaiting : c ∉ u.drive.waiting) :
    Away c u (cs.foldl (fun s' d => updateTarget d (targets.get d) s') u) := by
  induction cs generalizing u with
  | nil => exact .refl c u
  | cons d ds ih =>
    obtain ⟨hd, hds⟩ := not_or.mp (fun hmem => hc (List.mem_cons.mpr hmem))
    have hstep : Away c u (updateTarget d (targets.get d) u) :=
      (reached_updateTarget (Ne.symm hd) _ halone).resolve_right fun hgranted => hwaiting hgranted.1
    exact hstep.trans (ih hds (fun e he => (hstep.requests.test e).trans (halone e he)) (hstep.waiting hwaiting))

theorem away_requests (target : Corner → Nat) {cs : List Corner} (hc : c ∉ cs)
    (halone : ∀ d, d ≠ c → (u.monitorOf d).test = none) :
    Away c u (cs.foldl (fun s' d => requestBoost d (target d) s') u) := by
  induction cs generalizing u with
  | nil => exact .refl c u
  | cons d ds ih =>
    obtain ⟨hd, hds⟩ := not_or.mp (fun hmem => hc (List.mem_cons.mpr hmem))
    have hstep := away_requestBoost (u := u) (Ne.symm hd) (target d) (halone d (Ne.symm hd))
    exact hstep.trans (ih hds fun e he => (hstep.requests.test e).trans (halone e he))

/-! ### The corner's own request (R116, R118) -/

/-- The corner's request has ended the test, granted or not. -/
def EndedByRequest (c : Corner) (s t : State) (x : MonitorTest) (r : Request) : Prop :=
  AbortedSince s t x r ∧ (BoostedFrom c s t ∨ WaitsFrom c s t)

theorem EndedByRequest.away (h : EndedByRequest c s u x r) (g : Away c u v) : EndedByRequest c s v x r := by
  obtain ⟨haborted, heffect⟩ := h
  refine ⟨haborted.of_requests g.requests, ?_⟩
  rwa [BoostedFrom, WaitsFrom, g.corner, g.monitor]

theorem BeforeRequest.request (h : BeforeRequest c s u x r) (hat : TestAt s c x r) (i : Nat) :
    EndedByRequest c s (requestBoost c i u) x r := by
  rcases Nat.lt_or_ge u.drive.slots.length 2 with hfree | hfull
  · obtain ⟨haborted, hboosted⟩ := h.toBoost hat i
    rw [requestBoost_of_free hfree]
    exact ⟨haborted, .inl hboosted⟩
  · obtain ⟨haborted, hwaits⟩ := h.toWait hat i
    rw [requestBoost_of_full hfull]
    exact ⟨haborted, .inr hwaits⟩

/-- The requests down a ranking in which the corner stands once. -/
theorem BeforeRequest.requests (h : BeforeRequest c s u x r) (hat : TestAt s c x r) (target : Corner → Nat) {cs : List Corner}
    (hmem : c ∈ cs) (hnodup : cs.Nodup) :
    EndedByRequest c s (cs.foldl (fun s' d => requestBoost d (target d) s') u) x r := by
  obtain ⟨before, after, rfl⟩ := List.append_of_mem hmem
  obtain ⟨-, hrest, hdisjoint⟩ := List.nodup_append.mp hnodup
  have hbefore : c ∉ before := fun hin => hdisjoint c hin c (by simp) rfl
  have hended := (h.away (away_requests target hbefore (h.alone hat))).request hat (target c)
  rw [List.foldl_append, List.foldl_cons]
  exact hended.away (away_requests target (List.nodup_cons.mp hrest).1 fun d _ => hended.1.noTest d)

/-! ### The delivery -/

variable {targets : PerCorner Nat}

/-- The three rounds, the requests of the last named as the specification ranks them. -/
theorem deliverTogether_rounds (targets : PerCorner Nat) (s : State) :
    deliverTogether targets s = (rankedRequests targets s).foldl (fun s' d => requestBoost d (broughtTo targets s d) s')
      ((cornersIn s targets .direct).foldl (fun s' d => updateTarget d (targets.get d) s')
        ((cornersIn s targets .waitUpdate).foldl (fun s' d => updateTarget d (targets.get d) s') s)) := by
  rw [← ranked_requests]
  rfl

theorem not_mem_cornersIn {k k' : UpdateClass} (hc : classify s c (targets.get c) = k) (hne : k ≠ k') :
    c ∉ cornersIn s targets k' := fun hmem => hne (hc.symm.trans ((mem_cornersIn s targets k' c).mp hmem))

/-- A request of the tested corner in a TOGETHER delivery ends the test, whatever the lists. -/
theorem together_ends_test (hat : TestAt s c x r) (hasks : asksForBoost targets s c = true) :
    EndedByRequest c s (deliverTogether targets s) x r := by
  have hclass : classify s c (targets.get c) = .request := classify_request.mpr hasks
  have hfirst := (BeforeRequest.start c s x r).updates hat targets
    (not_mem_cornersIn hclass (k' := .waitUpdate) (by decide))
  have hbefore := hfirst.updates hat targets (not_mem_cornersIn hclass (k' := .direct) (by decide))
  rw [deliverTogether_rounds]
  exact hbefore.requests hat _ (mem_rankedRequests.mpr hasks) rankedRequests_nodup

theorem TestGoesOn.of_away {i : Nat} (h : TestGoesOn c x i u t) (g : Away c s u) (g' : Away c t v) : TestGoesOn c x i s v := by
  obtain ⟨hstate, htarget, hmonitor⟩ := h
  rw [g.corner, g.monitor, settling, g.tables, ← settling] at hmonitor
  exact ⟨by rw [g'.corner, hstate], by rw [g'.corner, htarget], g'.monitor.trans hmonitor⟩

/-- Below the boost step the test goes on, the arbiter's lists lawful. -/
theorem together_keeps_test (hat : TestAt s c x r) (hhold : (s.corner c).state = .hold) (hlaws : ArbiterLaws s)
    (hlow : (broughtTo targets s c : Int) - (s.corner c).target < s.tables.active.boostStep) :
    TestGoesOn c x (broughtTo targets s c) s (deliverTogether targets s) ∧ SameRequests s (deliverTogether targets s) := by
  have hasks : asksForBoost targets s c = false := by
    rw [asksForBoost, decide_eq_false (Int.not_le.mpr hlow), Bool.and_false]
  have hclass : classify s c (targets.get c) = .direct := classify_direct.mpr (.inl ⟨hhold, hasks⟩)
  have hwaiting : c ∉ s.drive.waiting := fun hmem => by
    obtain ⟨-, -, -, -, hwaits, -⟩ := hlaws
    obtain ⟨base, hbase⟩ := (hwaits c).mp hmem
    cases hhold.symm.trans hbase
  have hfirst := away_updates targets (not_mem_cornersIn hclass (k' := .waitUpdate) (by decide)) hat.alone hwaiting
  obtain ⟨before, after, hsplit⟩ := List.append_of_mem ((mem_cornersIn s targets .direct c).mpr hclass)
  have hnodup : (before ++ c :: after).Nodup := hsplit ▸ corners_nodup.filter _
  obtain ⟨-, hrest, hdisjoint⟩ := List.nodup_append.mp hnodup
  have hbefore : Away c s _ := hfirst.trans (away_updates targets (cs := before) (fun hin => hdisjoint c hin c (by simp) rfl)
    (hat.of_requests hfirst.requests).alone (hfirst.waiting hwaiting))
  rw [deliverTogether_rounds, hsplit, List.foldl_append, List.foldl_cons]
  generalize before.foldl _ _ = u at hbefore
  have hat' := hat.of_requests hbefore.requests
  have hclamp : u.tables.active.clampCurrent c (targets.get c) = broughtTo targets s c := by rw [hbefore.tables]; rfl
  obtain ⟨hgoes, hsame⟩ := (updateTarget_under_test hat' (by rw [hbefore.corner, hhold]) (targets.get c)).1
    (by rw [hclamp, hbefore.corner, hbefore.tables]; exact hlow)
  have hkept : c ∉ (updateTarget c (targets.get c) u).drive.waiting := by
    rw [updateTarget_of_hold _ (by rw [hbefore.corner, hhold]), if_neg (by
      rw [hclamp, hbefore.corner, hbefore.tables]; exact Int.not_le.mpr hlow)]
    simpa using hbefore.waiting hwaiting
  have hat'' := hat'.of_requests hsame
  have hafter := away_updates targets (List.nodup_cons.mp hrest).1 hat''.alone hkept
  have hasksNot : c ∉ rankedRequests targets s := fun hmem => by
    rw [mem_rankedRequests.mp hmem] at hasks
    cases hasks
  have hlast := hafter.trans (away_requests (broughtTo targets s) hasksNot (hat''.of_requests hafter.requests).alone)
  rw [hclamp] at hgoes
  exact ⟨hgoes.of_away hbefore hlast, hbefore.requests.trans (hsame.trans hlast.requests)⟩

/-- The lists lawful, the corner's place in the ranking says whether it takes a slot: the drive does not depend on the
test. -/
theorem together_places_request (hat : TestAt s c x r) (hlaws : ArbiterLaws s) :
    (c ∈ grantedRequests targets s → ∃ timeout, ((deliverTogether targets s).corner c).state = .boost timeout) ∧
      (c ∈ leftRequests targets s → ∃ base, ((deliverTogether targets s).corner c).state = .wait base) := by
  have hnone : NoTest (s.setMonitor c { s.monitorOf c with test := none }) := fun d => by
    rw [monitorOf_setMonitor]
    split
    · rfl
    · next hd => exact hat.alone d hd
  have hsame : SameDrive (s.setMonitor c { s.monitorOf c with test := none }) s := { }
  have hdrive := (driveCongruent_sameDrive.deliverTogether hsame targets).corner c
  have hdelivered := delivered (targets := targets) hnone hlaws
  refine ⟨fun hgranted => ⟨s.tables.active.boostTimeout, ?_⟩, fun hleft => ⟨(s.corner c).target, ?_⟩⟩
  · obtain ⟨hcorner, -⟩ := Prod.mk.inj (hdelivered.requestGranted c hgranted)
    rw [hdrive, hcorner]
    rfl
  · obtain ⟨hcorner, -⟩ := Prod.mk.inj (hdelivered.requestLeft c hleft)
    rw [hdrive, hcorner]
    rfl

end

end Sys2Proof.Machine

/-! A completion under a monitor test (R122 to R124, R138): the delivery, and the REPORT offered after the test's answer. -/

namespace Sys2Proof.Machine

section
variable {s z t : State} {c : Corner} {x : MonitorTest} {r : Request} {y : Cycle} {targets : PerCorner Nat}

/-! ### The delivery -/

/-- What a delivery does to the tested corner: below the boost step the test goes on, from it on the test is ended, and a slot
is taken or awaited by the slots held or the place in the ranking. -/
structure DeliveredUnderTest (targets : PerCorner Nat) (staggered : Bool) (c : Corner) (s t : State) (x : MonitorTest)
    (r : Request) : Prop where
  low : (staggered = false → ArbiterLaws s) →
    (broughtTo targets s c : Int) - (s.corner c).target < s.tables.active.boostStep →
    TestGoesOn c x (broughtTo targets s c) s t ∧ SameRequests s t
  high : (s.tables.active.boostStep : Int) ≤ (broughtTo targets s c : Int) - (s.corner c).target →
    EndedByRequest c s t x r ∧
      (staggered = true → (s.drive.slots.length < 2 → BoostedFrom c s t) ∧ (2 ≤ s.drive.slots.length → WaitsFrom c s t)) ∧
      (staggered = false → ArbiterLaws s → (c ∈ grantedRequests targets s → BoostedFrom c s t) ∧
        (c ∈ leftRequests targets s → WaitsFrom c s t) ∧ c ∈ grantedRequests targets s ++ leftRequests targets s)

theorem deliveredUnderTest_staggered (hat : TestAt s .fl x r) (hhold : (s.corner .fl).state = .hold) :
    DeliveredUnderTest targets true .fl s (updateTarget .fl targets.fl s) x r := by
  obtain ⟨hlow, hhigh⟩ := updateTarget_under_test hat hhold targets.fl
  refine ⟨fun _ hstep => hlow hstep, fun hstep => ?_⟩
  obtain ⟨haborted, hfree, hfull⟩ := hhigh hstep
  exact ⟨⟨haborted, (Nat.lt_or_ge s.drive.slots.length 2).imp hfree hfull⟩, fun _ => ⟨hfree, hfull⟩,
    fun htogether => absurd htogether.symm Bool.false_ne_true⟩

theorem deliveredUnderTest_together (hat : TestAt s c x r) (hhold : (s.corner c).state = .hold) :
    DeliveredUnderTest targets false c s (deliverTogether targets s) x r := by
  refine ⟨fun hlaws hstep => together_keeps_test hat hhold (hlaws rfl) hstep, fun hstep => ?_⟩
  have hasks : asksForBoost targets s c = true := by
    rw [asksForBoost, decide_eq_true hhold, decide_eq_true hstep, Bool.and_self]
  have hended := together_ends_test hat hasks
  refine ⟨hended, fun hstaggered => absurd hstaggered Bool.false_ne_true, fun _ hlaws => ?_⟩
  obtain ⟨hgranted, hleft⟩ := together_places_request (targets := targets) hat hlaws
  obtain ⟨-, heffect⟩ := hended
  refine ⟨fun hmem => heffect.resolve_right fun hwaits => ?_, fun hmem => heffect.resolve_left fun hboosted => ?_, ?_⟩
  · obtain ⟨timeout, hboost⟩ := hgranted hmem
    cases hboost.symm.trans hwaits.1
  · obtain ⟨base, hwait⟩ := hleft hmem
    cases hwait.symm.trans hboosted.1
  · rw [grantedRequests, leftRequests, List.take_append_drop]
    exact mem_rankedRequests.mpr hasks

/-- A completion's delivery is that of the state before it: the results written and the staggered updates cancelled do not
concern the Drive Unit. -/
theorem deliveredUnderTest_deliver (hat : TestAt s c x r) (hhold : (s.corner c).state = .hold)
    (hcorner : y.bank.isStaggered = false ∨ c = .fl) :
    DeliveredUnderTest targets y.bank.isStaggered c (cancelStaggered s) (deliver y.bank targets s) x r := by
  have hat' : TestAt (cancelStaggered s) c x r := ⟨hat.test, hat.alone, hat.executing⟩
  unfold deliver
  cases horder : y.bank.isStaggered with
  | false => exact deliveredUnderTest_together hat' hhold
  | true =>
    obtain rfl : c = .fl := hcorner.resolve_left (by simp [horder])
    obtain ⟨hlow, hhigh⟩ := deliveredUnderTest_staggered (targets := targets) hat' hhold
    refine ⟨fun hlaws hstep => ?_, fun hstep => ?_⟩
    · obtain ⟨hgoes, hlink, hmgmt, htest⟩ := hlow hlaws hstep
      exact ⟨hgoes, hlink, hmgmt, htest⟩
    · obtain ⟨⟨haborted, heffect⟩, hplaced⟩ := hhigh hstep
      exact ⟨⟨⟨haborted.link, haborted.mgmt, haborted.noTest⟩, heffect⟩, hplaced⟩

/-! ### The REPORT after the answer (R20, R189; log entry 11) -/

theorem answer_isSet_of {a b : State} {f : Flag} (r : Request) (k : Result) (data : List Word) (hlink : b.link = a.link)
    (hflag : f.isSet b.mgmt.flags = f.isSet a.mgmt.flags) :
    f.isSet (answer r k data b).mgmt.flags = f.isSet (answer r k data a).mgmt.flags := by
  unfold answer offerFrame State.port
  rw [hlink]
  repeat' split
  all_goals simp [hflag, setFlag_isSet, -setFlag_mgmt]

theorem reportOf_of_base {a b : State} (w : Word) (hnode : b.link.nodeAddress = a.link.nodeAddress) (hgate : b.gate = a.gate)
    (htiming : b.timing = a.timing) (hengine : b.engine = a.engine) : reportOf b t y w = reportOf a t y w := by
  unfold reportOf
  rw [hnode, hgate, htiming, hengine]

/-- After the delivery has answered the test, the REPORT is offered where the cycle is reported, and nothing else. -/
theorem report_after_abort {u : State} (hlink : u.link = (abortAnswered s x r).link)
    (hlost : Flag.insertLost.isSet u.mgmt.flags = Flag.insertLost.isSet (abortAnswered s x r).mgmt.flags)
    (hgate : u.gate = s.gate) (htiming : u.timing = s.timing) (hprogramme : u.engine.programme = s.engine.programme) :
    (y.number.toNat % (y.bank.reportDivider + 1) ≠ 0 → (makeReport y u).link = (abortAnswered s x r).link) ∧
      (y.number.toNat % (y.bank.reportDivider + 1) = 0 → ∃ w : Word,
        (∀ f : Flag, f.isSet w =
          if f = .insertLost then f.isSet (abortAnswered s x r).mgmt.flags else f.isSet (makeReport y u).mgmt.flags) ∧
        (makeReport y u).link =
          (offerFrame 2 s.timing.reportPort (reportOf s (makeReport y u) y w) (abortAnswered s x r)).link) := by
  obtain ⟨hskip, hdue⟩ := makeReport_link (y := y) (s := abortAnswered s x r) (t := u) hlink
    (by simpa [abortAnswered] using hgate) (by simpa [abortAnswered] using htiming)
    (by simpa [abortAnswered] using hprogramme)
  refine ⟨hskip, fun hreported => ⟨u.mgmt.flags, reportFlags hlost, ?_⟩⟩
  have hreport : reportOf (abortAnswered s x r) (makeReport y u) y u.mgmt.flags = reportOf s (makeReport y u) y u.mgmt.flags :=
    reportOf_of_base _ (by simp [abortAnswered]) (by simp [abortAnswered]) (by simp [abortAnswered]) (by simp [abortAnswered])
  have hport : (abortAnswered s x r).timing.reportPort = s.timing.reportPort := by simp [abortAnswered]
  rw [hdue hreported, hreport, hport]

/-! ### The completion -/

/-- Writing the results changes the Compute Engine and, at most, the flag PREVIEW_FULL. -/
theorem writeResults_eq (y : Cycle) (s : State) :
    ∃ m : Mgmt, m.executing = s.mgmt.executing ∧ Flag.insertLost.isSet m.flags = Flag.insertLost.isSet s.mgmt.flags ∧
      writeResults y s = { s with engine := finishCycle y s.engine, mgmt := m } := by
  refine ⟨(writeResults y s).mgmt, (writeResults_mgmt y s).1, flagsKept_writeResults y s .insertLost (by decide), ?_⟩
  unfold writeResults setFlagIf
  split <;> rfl

/-- What a completion does to the tested corner, to its test and to the REPORT of the cycle. -/
structure CompletedUnderTest (y : Cycle) (c : Corner) (s t : State) (x : MonitorTest) (r : Request) : Prop where
  low : (y.bank.isStaggered = false → ArbiterLaws s) →
    (broughtTo (targetsOf t.engine) s c : Int) - (s.corner c).target < s.tables.active.boostStep →
    TestGoesOn c x (broughtTo (targetsOf t.engine) s c) s t ∧ t.mgmt.executing = some r
  high : (s.tables.active.boostStep : Int) ≤ (broughtTo (targetsOf t.engine) s c : Int) - (s.corner c).target →
    (BoostedFrom c s t ∨ WaitsFrom c s t) ∧
      (y.bank.isStaggered = true →
        (s.drive.slots.length < 2 → BoostedFrom c s t) ∧ (2 ≤ s.drive.slots.length → WaitsFrom c s t)) ∧
      (y.bank.isStaggered = false → ArbiterLaws s →
        (c ∈ grantedRequests (targetsOf t.engine) s → BoostedFrom c s t) ∧
          (c ∈ leftRequests (targetsOf t.engine) s → WaitsFrom c s t) ∧
          c ∈ grantedRequests (targetsOf t.engine) s ++ leftRequests (targetsOf t.engine) s) ∧
      t.mgmt.executing = none ∧
      (y.number.toNat % (y.bank.reportDivider + 1) ≠ 0 → t.link = (abortAnswered s x r).link) ∧
      (y.number.toNat % (y.bank.reportDivider + 1) = 0 → ∃ w : Word,
        (∀ f : Flag, f.isSet w =
          if f = .insertLost then f.isSet (abortAnswered s x r).mgmt.flags else f.isSet t.mgmt.flags) ∧
        t.link = (offerFrame 2 s.timing.reportPort (reportOf s t y w) (abortAnswered s x r)).link)

theorem completion_under_test (hrun : s.resetInProgress = false) (h : TestRunsAt s c x r) (hy : s.engine.computing = some y)
    (hdelivers : y.hold = false) (hcorner : y.bank.isStaggered = false ∨ c = .fl) :
    ∃ t, exec .computationCompletion s = .next t ∧ CompletedUnderTest y c s t x r := by
  refine ⟨_, exec_computationCompletion ⟨hrun, hy⟩, ?_⟩
  obtain ⟨m, hexecuting, hlost, hwritten⟩ := writeResults_eq y s
  rw [stageDelivery_of_delivering hdelivers, hwritten]
  obtain ⟨hhold, htest, halone, hrunning⟩ := h
  have hat : TestAt { s with engine := finishCycle y s.engine, mgmt := m } c x r :=
    ⟨htest, halone, hexecuting.trans hrunning⟩
  have hdelivered := deliveredUnderTest_deliver (targets := targetsOf (finishCycle y s.engine)) hat hhold hcorner
  have hframe := delivered_frame (y := y) (s := s) _ (.inr rfl)
  rw [hwritten] at hframe
  obtain ⟨hgate, htiming, hengine⟩ := hframe
  generalize hu : deliver y.bank (targetsOf (finishCycle y s.engine)) { s with engine := finishCycle y s.engine, mgmt := m } = u
    at hdelivered hgate htiming hengine
  have htargets : targetsOf (makeReport y u).engine = targetsOf (finishCycle y s.engine) := by
    rw [← hengine]
    simp
  have hcorners : (makeReport y u).corner c = u.corner c := corner_of_drive (by simp) c
  have hitems : (makeReport y u).monitorOf c = u.monitorOf c := monitorOf_of_monitor (by simp) c
  have hreported : (makeReport y u).mgmt.executing = u.mgmt.executing := by simp
  obtain ⟨hlow, hhigh⟩ := hdelivered
  constructor
  · intro hlaws hstep
    rw [htargets] at hstep ⊢
    obtain ⟨hgoes, hrequests⟩ := hlow hlaws hstep
    rw [TestGoesOn, hcorners, hitems, hreported, hrequests.mgmt]
    exact ⟨hgoes, hexecuting.trans hrunning⟩
  · intro hstep
    rw [htargets] at hstep ⊢
    obtain ⟨⟨haborted, heffect⟩, hslots, hranked⟩ := hhigh hstep
    have hmgmt := haborted.mgmt
    have hlink : u.link = (abortAnswered s x r).link := haborted.link.trans (answer_link_of r .aborted [natWord x.judged] rfl)
    have hkept : Flag.insertLost.isSet u.mgmt.flags = Flag.insertLost.isSet (abortAnswered s x r).mgmt.flags := by
      rw [hmgmt]
      exact answer_isSet_of r .aborted [natWord x.judged] rfl hlost
    rw [BoostedFrom, WaitsFrom, hcorners, hitems, hreported]
    refine ⟨heffect, hslots, hranked, ?_, report_after_abort hlink hkept hgate htiming ?_⟩
    · rw [hmgmt]
      simp [abortAnswered]
    · rw [hengine, (finishCycle_control y s.engine).1]

end

/-- Settles O30: the events that change the tested corner's target or close the gate, each by its rule. -/
theorem monitorTestsAreAbortedOrGoOn : Obligations.MonitorTestsAreAbortedOrGoOn := by
  intro c s x r hrun h ended step held
  have hhold : (s.corner c).state = .hold := h.1
  refine ⟨fun u hu => ?_, fun average hvalid hsettle => measurement_while_settling hrun hhold hvalid hsettle average,
    fun v hv hvalid hcut hopen => ?_, fun src first timeout halive hinv hopen ha hb hcommit hprogramme => ?_,
    fun y hy hdelivers hcorner => ?_⟩
  · obtain ⟨t, hexec, hlow, hhigh⟩ := staggeredUpdate_under_test hrun h hu
    refine ⟨t, hexec, fun hstep => ?_, fun hstep => ?_⟩
    · obtain ⟨⟨hstate, htarget, hitems⟩, hrequests⟩ := hlow hstep
      exact ⟨hstate, htarget, hitems, hrequests.mgmt, hrequests.link⟩
    · obtain ⟨haborted, hplaced⟩ := hhigh hstep
      exact ⟨haborted.link, haborted.mgmt, hplaced⟩
  · obtain ⟨t, hexec, hclosed⟩ := supplyCut_under_test hrun h hv hvalid hcut hopen
    exact ⟨t, hexec, hclosed.drives, hclosed.link, hclosed.mgmt⟩
  · obtain ⟨t, hexec, hclosed⟩ := silence_under_test first hrun h halive hinv hopen ha hb hcommit hprogramme
    exact ⟨t, hexec, hclosed.drives, hclosed.link, hclosed.mgmt⟩
  · obtain ⟨t, hexec, hlow, hhigh⟩ := completion_under_test hrun h hy hdelivers hcorner
    have hbrought : broughtTo (targetsOf t.engine) s c =
        clampNat (s.tables.active.iMin (axleOf c)) (s.tables.active.iMax (axleOf c)) (t.engine.results.get c).target := by
      simp [broughtTo, targetsOf]
    rw [hbrought] at hlow hhigh
    refine ⟨t, hexec, fun hlaws hstep => ?_, hhigh⟩
    obtain ⟨⟨hstate, htarget, hitems⟩, hrunning⟩ := hlow hlaws hstep
    exact ⟨hstate, htarget, hitems, hrunning⟩

end Sys2Proof.Machine
